-- ==== Sys2Proof/Word.lean ====
section
/-! DEFINITION. The plainest types: bytes (00_scope.md R8), disc positions (42_seek.md R160) and PCM buffers
(44_sector_pipeline.md R268). -/

namespace Sys2Proof

/-- A byte: an unsigned 8-bit value, bit 0 the least significant (00_scope.md R8). -/
abbrev Byte := BitVec 8

/-- A disc position in internal binary form: minute 0..99, second 0..59, frame 0..74 (42_seek.md R160). -/
structure Msf where
  m : Fin 100
  s : Fin 60
  f : Fin 75
deriving DecidableEq, Repr, Inhabited

/-- A PCM buffer of the audio backend: opaque to the controller, forwarded as given (44_sector_pipeline.md R268,
93_implementation_defined.md U11). -/
abbrev Pcm := List Byte

end Sys2Proof
end

