-- ==== Sys2Proof/Config.lean ====
section
/-! DEFINITION. The implementation parameters of 00_scope.md R7, every one a field, with the spec's default column; and
the free answers of the disc backend (20_memory.md R70, 93_implementation_defined.md U9): opaque constants that nothing
can evaluate. Log entries 8, 9, 12, 13. -/

namespace Sys2Proof

/-- The parameters (00_scope.md R7). The defaults are the spec's; the source calls its literals unaudited
(93_implementation_defined.md U1; UNVERIFIED, log entry 13). Every delay is in cycles of the shared counter. -/
structure Config where
  /-- `PSXCLK`, cycles per second -/
  psxclk : Nat := 33868800
  /-- `PARAM_CAP` -/
  paramCap : Nat := 16
  /-- `RESP_CAP` -/
  respCap : Nat := 16
  /-- `SECTOR_BYTES` -/
  sectorBytes : Nat := 2352
  /-- `T_CMD[op]` of every opcode that `tCmdTable` does not list -/
  tCmdBase : Nat := 2048
  /-- `T_CMD[op]` of the opcodes with a delay of their own (none by default: 92_eei_decisions.md D13) -/
  tCmdTable : List (Byte × Nat) := []
  /-- `T_SEEK_MIN` -/
  tSeekMin : Nat := 33868
  /-- `SEEK_TJ_BASE` -/
  seekTjBase : Nat := 135472
  /-- `SEEK_TJ_PER` -/
  seekTjPer : Nat := 5000
  /-- `SEEK_MED_BASE` -/
  seekMedBase : Nat := 677360
  /-- `SEEK_MED_PER` -/
  seekMedPer : Nat := 200
  /-- `SEEK_LONG_BASE` -/
  seekLongBase : Nat := 3386880
  /-- `SEEK_LONG_PER` -/
  seekLongPer : Nat := 100
  /-- `SEEK_CAP` -/
  seekCap : Nat := psxclk * 9 / 10
  /-- `T2_INIT` -/
  t2Init : Nat := 4000000
  /-- `T2_STOP` -/
  t2Stop : Nat := 15000
  /-- `T2_PAUSE` -/
  t2Pause : Nat := 10000
  /-- `T2_READTOC` -/
  t2ReadToc : Nat := 45000
  /-- `SECTOR_PERIOD_1X` -/
  sectorPeriod1x : Nat := psxclk / 75
  /-- `SECTOR_PERIOD_2X` -/
  sectorPeriod2x : Nat := psxclk / 150
  /-- `T_RECHECK[ACK]` -/
  tRecheckAck : Nat := 500
  /-- `T_RECHECK[DataReady]` -/
  tRecheckDataReady : Nat := 500
  /-- `T_RECHECK[Complete]` -/
  tRecheckComplete : Nat := 1000
  /-- `T_RECHECK[DiskError]` -/
  tRecheckDiskError : Nat := 500
  /-- `T_DEFER` -/
  tDefer : Nat := 256
  /-- `REPORT_N` -/
  reportN : Nat := 10
  /-- `SEEK_COMPLETE_IRQ` -/
  seekCompleteIrq : Bool := false
  /-- `IRQ_MASK_RESET` -/
  irqMaskReset : Byte := 0x1F
  /-- `CD_BASE` (OPEN in the spec; the console's value, 92_eei_decisions.md D38) -/
  cdBase : Nat := 0x1F801800
  /-- `TEST20_BYTES` -/
  test20Bytes : List Byte := [0x94, 0x09, 0x19, 0xC0]
deriving DecidableEq, Repr

namespace Config

/-- The default column of 00_scope.md R7. -/
def standard : Config := {}

/-- `T_CMD[op]`, the initial delay of a command (41_command_pipeline.md R141). -/
def tCmd (c : Config) (op : Byte) : Nat := (c.tCmdTable.lookup op).getD c.tCmdBase

/-- A configuration the spec allows: every delay is at least 1 (45_irq_scheduler.md R282), and the capacities, the
sector size and the report interval are not zero. -/
def valid (c : Config) : Bool :=
  1 ≤ c.paramCap && 1 ≤ c.respCap && 1 ≤ c.sectorBytes && 1 ≤ c.reportN
  && 1 ≤ c.tCmdBase && c.tCmdTable.all (fun e => 1 ≤ e.2)
  && 1 ≤ c.tSeekMin && 1 ≤ c.seekTjBase && 1 ≤ c.seekMedBase && 1 ≤ c.seekLongBase && 1 ≤ c.seekCap
  && 1 ≤ c.t2Init && 1 ≤ c.t2Stop && 1 ≤ c.t2Pause && 1 ≤ c.t2ReadToc
  && 1 ≤ c.sectorPeriod1x && 1 ≤ c.sectorPeriod2x
  && 1 ≤ c.tRecheckAck && 1 ≤ c.tRecheckDataReady && 1 ≤ c.tRecheckComplete && 1 ≤ c.tRecheckDiskError
  && 1 ≤ c.tDefer

/-- FREE VALUE: the answer to the `n`-th query when it is `Backend.present()` (20_memory.md R70; log entry 8). -/
opaque freePresent : Nat → Bool

/-- FREE VALUE: one end of the track range answered to the `n`-th query, less 1 (20_memory.md R70; log entry 9). -/
opaque freeTrackA : Nat → Fin 99

/-- FREE VALUE: the other end of the track range answered to the `n`-th query, less 1 (20_memory.md R70; log entry 9). -/
opaque freeTrackB : Nat → Fin 99

/-- FREE VALUE: the answer to the `n`-th query when it is `Backend.start(t)` (20_memory.md R70; log entry 8). -/
opaque freeStart : Nat → Nat → Msf

/-- FREE VALUE: the answer to the `n`-th query when it is `Backend.read(p)`: a raw image, or a failure
(20_memory.md R70; log entries 8, 11). -/
opaque freeRead : Nat → Msf → Option (List Byte)

/-- FREE VALUE: the answer to the `n`-th query when it is `Backend.readAudio(p)` (20_memory.md R70, U11; log entry 8). -/
opaque freeAudio : Nat → Msf → Option Pcm

end Config

end Sys2Proof
end

