-- ==== Sys2Proof/Syntax.lean ====
section
/-! DEFINITION. The instructions: one constructor for each row of spec/opcode_table.json (00_scope.md R2,
30_encoding.md R80, R81, R93). A command's parameters are not part of its word: they are latched in State
(30_encoding.md R82, 41_command_pipeline.md R141). -/

namespace Sys2Proof

/-- The controller's operations: eleven port operations, thirty-one commands, four ranges of invalid command bytes,
six internal events. -/
inductive Instr where
  -- PORT: the host port operations (30_encoding.md R80); a write carries the byte written
  | p0r
  | p0w (data : Byte)
  | p1r
  | p1wCmd (data : Byte)
  | p1wParam (data : Byte)
  | p2r
  | p2wNop (data : Byte)
  | p2wParam (data : Byte)
  | p3r
  | p3wReq (data : Byte)
  | p3wMask (data : Byte)
  -- CMD: the commands 0x00 to 0x1E (30_encoding.md R81)
  | sync
  | getstat
  | setloc
  | play
  | forward
  | backward
  | readN
  | standby
  | stop
  | pause
  | init
  | mute
  | demute
  | setfilter
  | setmode
  | getparam
  | getlocL
  | getlocP
  | setSession
  | getTN
  | getTD
  | seekL
  | seekP
  | setClock
  | getClock
  | test
  | getID
  | readS
  | reset
  | getQ
  | readTOC
  -- CMD: the invalid command bytes, one constructor for each row of the table (43_commands.md R215)
  | invalid1F
  | invalid20 (op : Byte)
  | invalid40 (op : Byte)
  | invalid80 (op : Byte)
  -- EVENT: the internal events, with the generation they carry (30_encoding.md R93, 45_irq_scheduler.md R281)
  | cmdExec (gen : Nat)
  | cmdSecond (gen : Nat)
  | seekDone (gen : Nat)
  | sectorRead (gen : Nat)
  | playSector (gen : Nat)
  | irqRecheck (gen : Nat)
deriving DecidableEq, Repr

end Sys2Proof
end

