-- ==== Sys2Proof/Decode.lean ====
section
/-! DEFINITION. The decoder and the encoder. The controller has three encoding spaces that share bit patterns and are
never confused on any bus (30_encoding.md, opening; R80, R81, R93): a host port access, a command byte, an event kind.
Each space has the table of its rows, mask and pattern as in spec/opcode_table.json. Log entries 17, 18. -/

namespace Sys2Proof

/-- What the decoder is given: the bytes of one encoding space.
A port access is two bytes, the selector `sel = port<<2 | w<<1 | ctrl[0]` (R80) and the data byte (of a read: ignored).
A command is one byte (R81).
An event is its kind's index, one byte, beside the natural generation of its record, which no rule encodes in bits
(R93). The two-byte layout and the record's form are the model's (DESIGN CHOICE, log entry 18). -/
inductive Encoded where
  | port (bytes : List Byte)
  | command (bytes : List Byte)
  | event (bytes : List Byte) (gen : Nat)
deriving DecidableEq, Repr

/-- Why bytes are no instruction. Each is a refusal of the decoder (safe: nothing runs). -/
inductive Reject where
  /-- a port access is a selector byte and a data byte -/
  | portLength
  /-- a selector has four bits (30_encoding.md R80) -/
  | portReserved
  /-- a command is exactly one byte (30_encoding.md R88) -/
  | commandLength
  /-- no row covers the command byte (never met: the rows cover all 256, 30_encoding.md R87) -/
  | commandReserved
  /-- an event kind is one byte -/
  | eventLength
  /-- event kinds are 0 to 5 (30_encoding.md R93) -/
  | eventReserved
deriving DecidableEq, Repr

/-- A row of an encoding table: a word `w` belongs to it when `w AND mask = pattern`. -/
structure Row (n : Nat) (α : Type) where
  mnemonic : String
  mask : BitVec n
  pattern : BitVec n
  make : α → Instr

/-- Whether a word belongs to a row. -/
def Row.covers {n : Nat} {α : Type} (r : Row n α) (w : BitVec n) : Bool := w &&& r.mask == r.pattern

/-- The eleven host port operations by selector; the operand is the data byte (30_encoding.md R80). -/
def portRows : List (Row 4 Byte) := [
  ⟨"P0R", 0xE, 0x0, fun _ => .p0r⟩,
  ⟨"P0W", 0xE, 0x2, .p0w⟩,
  ⟨"P1R", 0xE, 0x4, fun _ => .p1r⟩,
  ⟨"P1W_CMD", 0xF, 0x6, .p1wCmd⟩,
  ⟨"P1W_PARAM", 0xF, 0x7, .p1wParam⟩,
  ⟨"P2R", 0xE, 0x8, fun _ => .p2r⟩,
  ⟨"P2W_NOP", 0xF, 0xA, .p2wNop⟩,
  ⟨"P2W_PARAM", 0xF, 0xB, .p2wParam⟩,
  ⟨"P3R", 0xE, 0xC, fun _ => .p3r⟩,
  ⟨"P3W_REQ", 0xF, 0xE, .p3wReq⟩,
  ⟨"P3W_MASK", 0xF, 0xF, .p3wMask⟩]

/-- The commands of the first half of the table, 0x00 to 0x0F (30_encoding.md R81). -/
def commandRowsLow : List (Row 8 Byte) := [
  ⟨"Sync", 0xFF, 0x00, fun _ => .sync⟩,
  ⟨"Getstat", 0xFF, 0x01, fun _ => .getstat⟩,
  ⟨"Setloc", 0xFF, 0x02, fun _ => .setloc⟩,
  ⟨"Play", 0xFF, 0x03, fun _ => .play⟩,
  ⟨"Forward", 0xFF, 0x04, fun _ => .forward⟩,
  ⟨"Backward", 0xFF, 0x05, fun _ => .backward⟩,
  ⟨"ReadN", 0xFF, 0x06, fun _ => .readN⟩,
  ⟨"Standby", 0xFF, 0x07, fun _ => .standby⟩,
  ⟨"Stop", 0xFF, 0x08, fun _ => .stop⟩,
  ⟨"Pause", 0xFF, 0x09, fun _ => .pause⟩,
  ⟨"Init", 0xFF, 0x0A, fun _ => .init⟩,
  ⟨"Mute", 0xFF, 0x0B, fun _ => .mute⟩,
  ⟨"Demute", 0xFF, 0x0C, fun _ => .demute⟩,
  ⟨"Setfilter", 0xFF, 0x0D, fun _ => .setfilter⟩,
  ⟨"Setmode", 0xFF, 0x0E, fun _ => .setmode⟩,
  ⟨"Getparam", 0xFF, 0x0F, fun _ => .getparam⟩]

/-- The commands of the second half of the table, 0x10 to 0x1E, and the invalid bytes (30_encoding.md R81). -/
def commandRowsHigh : List (Row 8 Byte) := [
  ⟨"GetlocL", 0xFF, 0x10, fun _ => .getlocL⟩,
  ⟨"GetlocP", 0xFF, 0x11, fun _ => .getlocP⟩,
  ⟨"SetSession", 0xFF, 0x12, fun _ => .setSession⟩,
  ⟨"GetTN", 0xFF, 0x13, fun _ => .getTN⟩,
  ⟨"GetTD", 0xFF, 0x14, fun _ => .getTD⟩,
  ⟨"SeekL", 0xFF, 0x15, fun _ => .seekL⟩,
  ⟨"SeekP", 0xFF, 0x16, fun _ => .seekP⟩,
  ⟨"SetClock", 0xFF, 0x17, fun _ => .setClock⟩,
  ⟨"GetClock", 0xFF, 0x18, fun _ => .getClock⟩,
  ⟨"Test", 0xFF, 0x19, fun _ => .test⟩,
  ⟨"GetID", 0xFF, 0x1A, fun _ => .getID⟩,
  ⟨"ReadS", 0xFF, 0x1B, fun _ => .readS⟩,
  ⟨"Reset", 0xFF, 0x1C, fun _ => .reset⟩,
  ⟨"GetQ", 0xFF, 0x1D, fun _ => .getQ⟩,
  ⟨"ReadTOC", 0xFF, 0x1E, fun _ => .readTOC⟩,
  ⟨"INVALID", 0xFF, 0x1F, fun _ => .invalid1F⟩,
  ⟨"INVALID", 0xE0, 0x20, .invalid20⟩,
  ⟨"INVALID", 0xC0, 0x40, .invalid40⟩,
  ⟨"INVALID", 0x80, 0x80, .invalid80⟩]

/-- The command byte map: the operand is the byte itself, whole (30_encoding.md R81, 90_conflicts.md C10). -/
def commandRows : List (Row 8 Byte) := commandRowsLow ++ commandRowsHigh

/-- The six event kinds; the operand is the generation (30_encoding.md R93, 45_irq_scheduler.md R281). -/
def eventRows : List (Row 3 Nat) := [
  ⟨"CMD_EXEC", 7, 0, .cmdExec⟩,
  ⟨"CMD_SECOND", 7, 1, .cmdSecond⟩,
  ⟨"SEEK_DONE", 7, 2, .seekDone⟩,
  ⟨"SECTOR_READ", 7, 3, .sectorRead⟩,
  ⟨"PLAY_SECTOR", 7, 4, .playSector⟩,
  ⟨"IRQ_RECHECK", 7, 5, .irqRecheck⟩]

/-- The instruction of the row that covers a word, or the given rejection. -/
def lookupRow {n : Nat} {α : Type} (rows : List (Row n α)) (why : Reject) (w : BitVec n) (operand : α) :
    Except Reject Instr :=
  match rows.find? (fun r => r.covers w) with
  | some r => .ok (r.make operand)
  | none => .error why

/-- Decode a host access: selector byte, data byte (30_encoding.md R80, 40_fifo_and_registers.md R116). -/
def decodePort : List Byte → Except Reject Instr
  | [sel, data] =>
    if sel.toNat < 16 then lookupRow portRows .portReserved (sel.setWidth 4) data else .error .portReserved
  | _ => .error .portLength

/-- Decode a command byte (30_encoding.md R81). -/
def decodeCommand : List Byte → Except Reject Instr
  | [op] => lookupRow commandRows .commandReserved op op
  | _ => .error .commandLength

/-- Decode an event kind with its generation (30_encoding.md R93). -/
def decodeEvent (bytes : List Byte) (gen : Nat) : Except Reject Instr :=
  match bytes with
  | [kind] => if kind.toNat < 8 then lookupRow eventRows .eventReserved (kind.setWidth 3) gen else .error .eventReserved
  | _ => .error .eventLength

/-- The decoder: total on any bytes of each encoding space, rejecting by name. -/
def decode : Encoded → Except Reject Instr
  | .port bytes => decodePort bytes
  | .command bytes => decodeCommand bytes
  | .event bytes gen => decodeEvent bytes gen

/-- The encoder. A don't-care bit of a selector and the data byte of a read are written as 0. -/
def encode : Instr → Encoded
  | .p0r => .port [0x00, 0x00]
  | .p0w v => .port [0x02, v]
  | .p1r => .port [0x04, 0x00]
  | .p1wCmd v => .port [0x06, v]
  | .p1wParam v => .port [0x07, v]
  | .p2r => .port [0x08, 0x00]
  | .p2wNop v => .port [0x0A, v]
  | .p2wParam v => .port [0x0B, v]
  | .p3r => .port [0x0C, 0x00]
  | .p3wReq v => .port [0x0E, v]
  | .p3wMask v => .port [0x0F, v]
  | .sync => .command [0x00]
  | .getstat => .command [0x01]
  | .setloc => .command [0x02]
  | .play => .command [0x03]
  | .forward => .command [0x04]
  | .backward => .command [0x05]
  | .readN => .command [0x06]
  | .standby => .command [0x07]
  | .stop => .command [0x08]
  | .pause => .command [0x09]
  | .init => .command [0x0A]
  | .mute => .command [0x0B]
  | .demute => .command [0x0C]
  | .setfilter => .command [0x0D]
  | .setmode => .command [0x0E]
  | .getparam => .command [0x0F]
  | .getlocL => .command [0x10]
  | .getlocP => .command [0x11]
  | .setSession => .command [0x12]
  | .getTN => .command [0x13]
  | .getTD => .command [0x14]
  | .seekL => .command [0x15]
  | .seekP => .command [0x16]
  | .setClock => .command [0x17]
  | .getClock => .command [0x18]
  | .test => .command [0x19]
  | .getID => .command [0x1A]
  | .readS => .command [0x1B]
  | .reset => .command [0x1C]
  | .getQ => .command [0x1D]
  | .readTOC => .command [0x1E]
  | .invalid1F => .command [0x1F]
  | .invalid20 op => .command [op]
  | .invalid40 op => .command [op]
  | .invalid80 op => .command [op]
  | .cmdExec g => .event [0x00] g
  | .cmdSecond g => .event [0x01] g
  | .seekDone g => .event [0x02] g
  | .sectorRead g => .event [0x03] g
  | .playSector g => .event [0x04] g
  | .irqRecheck g => .event [0x05] g

/-- The instruction the decoder reads from a word of spec/opcode_table.json.
The table's three formats have 4 (PORT), 8 (CMD) and 3 (EVENT) bits and share bit patterns, so a width names the
space: 3 bits an event kind, 4 bits a port selector, 8 bits a command byte. Operands above the word are 0.
(DESIGN CHOICE, log entry 17.) -/
def decodeTableWord (nbits w : Nat) : Option Instr :=
  let answer : Except Reject Instr → Option Instr
    | .ok i => some i
    | .error _ => none
  match nbits with
  | 3 => answer (decode (.event [BitVec.ofNat 8 w] 0))
  | 4 => answer (decode (.port [BitVec.ofNat 8 w, 0]))
  | 8 => answer (decode (.command [BitVec.ofNat 8 w]))
  | _ => none

end Sys2Proof
end

