-- ==== Sys2Proof/Machine/State.lean ====
section
/-! DEFINITION. The controller's state (10_state.md R20 to R41), the environment's inputs and the outputs of a step as
plain data, the reasons a step can stop, and the state after power-on reset (70_reset_and_hazards.md R330). -/

namespace Sys2Proof.Machine

/-- The drive's mechanical states, numbered 0..10 in this order (10_state.md R29). `openingShell` and `spinningUp`
are never entered: no rule leads into them. -/
inductive DriveState where
  | idle | openingShell | resetting | spinningUp | seekingPhysical | seekingLogical | reading | playing | pausing
  | stopping | error
deriving DecidableEq, Repr

/-- The command phases, numbered 0..3 in this order (10_state.md R30). -/
inductive Phase where
  | idle | executing | waitingIrq | secondResponse
deriving DecidableEq, Repr

/-- The classes of a seek distance (10_state.md R34, 42_seek.md R164). -/
inductive SeekClass where
  | none | forward | trackJump | medium | long
deriving DecidableEq, Repr

/-- The interrupt types the controller generates (30_encoding.md R84). -/
inductive IrqType where
  | dataReady | complete | ack | diskError
deriving DecidableEq, Repr

/-- The event kinds, numbered 0..5 in this order (45_irq_scheduler.md R281). -/
inductive EventKind where
  | cmdExec | cmdSecond | seekDone | sectorRead | playSector | irqRecheck
deriving DecidableEq, Repr

/-- A byte array addressed by a natural: (address, byte) cells with addresses strictly rising and no byte equal to what
an unlisted address reads as (`Memory.blank`, 0x00). Log entry 22. -/
abbrev Memory := List Host.Cell

/-- A ring buffer of bytes (40_fifo_and_registers.md R110). -/
structure Fifo where
  buf : List Byte
  rd : Nat
  wr : Nat
  size : Nat
deriving DecidableEq, Repr

/-- The one-deep command queue (10_state.md R32). -/
structure Queued where
  valid : Bool
  op : Byte
  params : List Byte
deriving DecidableEq, Repr

/-- The seek descriptor: `seek_dist`, `seek_class`, `seek_ticks`, `seek_start`, `seek_end` (10_state.md R34). -/
structure SeekDesc where
  dist : Nat
  cls : SeekClass
  ticks : Nat
  startAt : Nat
  doneAt : Nat
deriving DecidableEq, Repr

/-- The transfer buffer and `data_ready` (10_state.md R35). -/
structure Xfer where
  buf : Memory
  index : Nat
  size : Nat
  ready : Bool
deriving DecidableEq, Repr

/-- The interrupt latch: `irq_pending` and the 3-bit `irq_type` (10_state.md R38). -/
structure Latch where
  pending : Bool
  kind : BitVec 3
deriving DecidableEq, Repr

/-- A pending event (10_state.md R40). -/
structure Event where
  due : Nat
  seq : Nat
  kind : EventKind
  gen : Nat
deriving DecidableEq, Repr

/-- The pending events, in the order they were scheduled, and `next_seq` (10_state.md R40; log entry 21). -/
structure EventQueue where
  events : List Event
  nextSeq : Nat
deriving DecidableEq, Repr

/-- A byte access of the host bus: an address, the width in bits, and the byte written, or none for a read
(20_memory.md R60, R62, R65; 30_encoding.md R80). -/
structure BusAccess where
  addr : Nat
  bits : Nat
  write : Option Byte
deriving DecidableEq, Repr

/-- A step of the environment at the cycle it chooses: `Tick(t)`, `Access(t, ...)` (45_irq_scheduler.md R284), or
machine power-on (70_reset_and_hazards.md R330; log entry 6). -/
inductive HostStep where
  | tick (cycle : Nat)
  | access (cycle : Nat) (a : BusAccess)
  | powerOn (cycle : Nat)
deriving DecidableEq, Repr

/-- What the disc backend answers while one disc (or none) is in the drive (20_memory.md R70).
The track range is `1 + min a b .. 1 + max a b`, so that `1 <= first <= last <= 99` for any data (log entry 9).
`starts` lists track start times (0 the lead-out), `sectors` raw images, `audio` PCM buffers; what an unlisted key is
answered is log entry 11. -/
structure Disc where
  present : Bool
  trackA : Fin 99
  trackB : Fin 99
  starts : List (Nat × Msf)
  sectors : List (Msf × List Byte)
  audio : List (Msf × Pcm)
deriving DecidableEq, Repr

/-- The backend's coming answers: each query is answered by the first disc of the list, which is then dropped unless it
is the last; the empty list answers with free values. `draws` counts the queries (20_memory.md R70; log entry 8). -/
structure Backend where
  discs : List Disc
  draws : Nat
deriving DecidableEq, Repr

/-- The outputs of one step: the byte a read returned, the interrupt-line pulse, the audio emission
(45_irq_scheduler.md R290, 44_sector_pipeline.md R268; log entry 7). -/
structure Output where
  bus : Option Byte
  line : Bool
  audio : Option Pcm
deriving DecidableEq, Repr

/-- The state of the machine. The first group is the controller's own record (10_state.md R22 to R40); `cfg` holds the
parameters, which no step writes (log entry 12); the last group is the environment's side (10_state.md R41). -/
structure State where
  /-- the parameters of 00_scope.md R7 -/
  cfg : Config
  /-- R22 -/
  ctrl : Byte
  /-- R23 -/
  irqMask : Byte
  /-- R24 -/
  pfifo : Fifo
  /-- R25 -/
  rfifo : Fifo
  /-- R26 -/
  statP : Byte
  /-- R27 -/
  mode : Byte
  /-- R29 -/
  drive : DriveState
  /-- R30 -/
  phase : Phase
  /-- R31 -/
  curOp : Byte
  /-- R31 -/
  curParams : List Byte
  /-- R32 -/
  queued : Queued
  /-- R33 -/
  cur : Msf
  /-- R33 -/
  target : Msf
  /-- R33 -/
  setlocPending : Bool
  /-- R34 -/
  seek : SeekDesc
  /-- R35 -/
  xfer : Xfer
  /-- R36 -/
  lastHdr : List Byte
  /-- R37 -/
  filterFile : Byte
  /-- R37 -/
  filterChannel : Byte
  /-- R37 -/
  muted : Bool
  /-- R37 -/
  reportCount : Nat
  /-- R38 -/
  latch : Latch
  /-- R39 -/
  cmdGen : Nat
  /-- R39 -/
  driveGen : Nat
  /-- R40 -/
  queue : EventQueue
  /-- the shared cycle counter, an input (R41, 45_irq_scheduler.md R280) -/
  now : Nat
  /-- the host's coming steps, an input (R41, 45_irq_scheduler.md R284) -/
  inputs : List HostStep
  /-- the disc backend's coming answers, an input (R41, 20_memory.md R70) -/
  backend : Backend
  /-- the outputs of the last step (R41, 45_irq_scheduler.md R290) -/
  out : Output
deriving DecidableEq, Repr

/-- Why the machine stops. -/
inductive Fault where
  /-- Raised by the fetch: a host access to an address outside `CD_BASE + 0..3`, where no port of the controller exists
  (20_memory.md R60, R65). Safe: nothing runs. -/
  | noSuchPort (addr : Nat)
  /-- Raised by CMD_SECOND when the latched command has no second phase: `Finish` is "defined only for Stop, Pause, Init
  and ReadTOC" (41_command_pipeline.md R145). Safe: no reachable state meets it. -/
  | noSecondPhase (op : Byte)
deriving DecidableEq, Repr

/-- Why a step is refused. -/
inductive Refusal where
  /-- Raised by `exec` for an instruction without a meaning in the model. Safe: nothing runs. -/
  | notModelled (mnemonic : String)
  /-- Raised by the fetch: a host access that is not 8 bits wide (20_memory.md R62). Safe: nothing runs. -/
  | nonByteAccess (bits : Nat)
  /-- Raised by the fetch: a host step at a cycle before `now`, which the environment may not choose
  (45_irq_scheduler.md R284). Safe: nothing runs. -/
  | pastCycle (cycle : Nat)
  /-- Raised by the step when the decoder rejects the fetched bytes; the fetch never yields such bytes. Safe. -/
  | undecoded (why : Reject)
deriving DecidableEq, Repr

/-- The outcome of an instruction or a step. -/
abbrev StepResult := Host.Outcome State Fault Refusal

/-- An empty FIFO after power-on reset: cursors 0, every byte 0x00 (10_state.md R24, R25). -/
def Fifo.atReset (cap : Nat) : Fifo := { buf := List.replicate cap 0x00, rd := 0, wr := 0, size := 0 }

/-- Nothing on any output. -/
def Output.silent : Output := { bus := none, line := false, audio := none }

/-- Position 00:02:00, LBA 0 (10_state.md R33, 90_conflicts.md C1). -/
def initialPosition : Msf := { m := 0, s := 2, f := 0 }

/-- Power-on reset of a controller with the given parameters, in the environment given by the counter, the host's
coming steps and the backend, none of which it touches (70_reset_and_hazards.md R330). -/
def State.powerOn (cfg : Config) (now : Nat) (inputs : List HostStep) (backend : Backend) : State where
  cfg := cfg
  ctrl := 0x00
  irqMask := cfg.irqMaskReset
  pfifo := Fifo.atReset cfg.paramCap
  rfifo := Fifo.atReset cfg.respCap
  statP := 0x00
  mode := 0x00
  drive := .idle
  phase := .idle
  curOp := 0x00
  curParams := []
  queued := { valid := false, op := 0x00, params := [] }
  cur := initialPosition
  target := initialPosition
  setlocPending := false
  seek := { dist := 0, cls := .none, ticks := cfg.tSeekMin, startAt := 0, doneAt := 0 }
  xfer := { buf := [], index := 0, size := 0, ready := false }
  lastHdr := List.replicate 8 0x00
  filterFile := 0x00
  filterChannel := 0x00
  muted := false
  reportCount := 0
  latch := { pending := false, kind := 0 }
  cmdGen := 0
  driveGen := 0
  queue := { events := [], nextSeq := 0 }
  now := now
  inputs := inputs
  backend := backend
  out := Output.silent

/-- The machine right after reset (70_reset_and_hazards.md R330), with the default parameters, at cycle 0, no host step
offered yet and every backend answer free (the environment's fields: DESIGN CHOICE, log entry 15). -/
def State.reset : State := State.powerOn Config.standard 0 [] { discs := [], draws := 0 }

end Sys2Proof.Machine
end

