-- ==== Sys2Proof/Machine/Ops.lean ====
section
/-! DEFINITION. The shared operations: the byte array, the FIFOs, the event queue, the backend queries, the status bits,
raising an interrupt (what this block has for taking an exception) and its acknowledgement (the return). -/

namespace Sys2Proof.Machine

/-! ### Byte array -/

/-- What an index that a byte array does not list reads as: the reset content 0x00 (10_state.md R35; log entry 22). -/
def Memory.blank : Byte := 0x00

/-- The byte at an index. -/
def Memory.read (m : Memory) (i : Nat) : Byte := (m.lookup i).getD Memory.blank

/-- The array whose bytes from index `i` on are the given ones, every other index blank. -/
def Memory.loadFrom (i : Nat) : List Byte → Memory
  | [] => []
  | b :: bs => if b = Memory.blank then Memory.loadFrom (i + 1) bs else (i, b) :: Memory.loadFrom (i + 1) bs

/-- The canonical form from index `i` on: indices at least `i` and strictly rising, no blank byte listed. -/
def Memory.wfFrom (i : Nat) : Memory → Bool
  | [] => true
  | c :: m => i ≤ c.1 && c.2 != Memory.blank && Memory.wfFrom (c.1 + 1) m

/-- The canonical form. -/
def Memory.wf (m : Memory) : Bool := Memory.wfFrom 0 m

/-- The first `n` bytes of a raw image; bytes the image does not give are 0x00 (20_memory.md R70; log entry 11). -/
def imageByte (image : List Byte) (n i : Nat) : Byte := if i < n then image.getD i 0x00 else 0x00

/-! ### FIFOs (40_fifo_and_registers.md R110 to R114); `cap` is the FIFO's capacity -/

/-- `Push(F, b)`: nothing when full (R111). -/
def Fifo.push (cap : Nat) (f : Fifo) (b : Byte) : Fifo :=
  if f.size = cap then f
  else { buf := f.buf.set f.wr b, rd := f.rd, wr := (f.wr + 1) % cap, size := f.size + 1 }

/-- `Peek(F)`: the oldest byte, 0x00 when empty (R113). -/
def Fifo.peek (f : Fifo) : Byte := if f.size = 0 then 0x00 else f.buf.getD f.rd 0x00

/-- `Pop(F)`: the oldest byte and the FIFO without it; 0x00 and the FIFO unchanged when empty (R112). -/
def Fifo.pop (cap : Nat) (f : Fifo) : Byte × Fifo :=
  if f.size = 0 then (0x00, f)
  else (f.buf.getD f.rd 0x00, { buf := f.buf, rd := (f.rd + 1) % cap, wr := f.wr, size := f.size - 1 })

/-- `Clear(F)`: cursors and size 0, the bytes kept (R114). -/
def Fifo.clear (f : Fifo) : Fifo := { buf := f.buf, rd := 0, wr := 0, size := 0 }

/-- Push a list of bytes, the first one first. -/
def Fifo.pushAll (cap : Nat) (f : Fifo) (bs : List Byte) : Fifo := bs.foldl (Fifo.push cap) f

/-- The live bytes, oldest first: `[buf[(rd + i) mod cap] for i in 0 .. size-1]` (41_command_pipeline.md R140). -/
def Fifo.contents (cap : Nat) (f : Fifo) : List Byte :=
  (List.range f.size).map (fun i => f.buf.getD ((f.rd + i) % cap) 0x00)

/-- The ring's invariant (10_state.md R24): cursors in range, `size <= cap`, `wr = (rd + size) mod cap`. -/
def Fifo.wf (cap : Nat) (f : Fifo) : Bool :=
  f.buf.length == cap && f.rd < cap && f.wr < cap && f.size ≤ cap && f.wr == (f.rd + f.size) % cap

/-! ### Bits of `stat_p` (00_scope.md R8: a write of one bit leaves the others) -/

/-- Set the bits of a mask in `stat_p`. -/
def State.statSet (mask : Byte) (s : State) : State := { s with statP := s.statP ||| mask }

/-- Clear the bits of a mask in `stat_p`. -/
def State.statClear (mask : Byte) (s : State) : State := { s with statP := s.statP &&& ~~~mask }

/-! ### The event queue (45_irq_scheduler.md R282, R283) -/

/-- `Schedule(delta, kind, gen)`: one event due at `now + delta`, stamped with the next sequence number (R282). -/
def State.schedule (delta : Nat) (kind : EventKind) (gen : Nat) (s : State) : State :=
  { s with queue := {
      events := s.queue.events ++ [{ due := s.now + delta, seq := s.queue.nextSeq, kind := kind, gen := gen }],
      nextSeq := s.queue.nextSeq + 1 } }

/-- The firing order: ascending `(due, seq)` (R283). -/
def Event.before (a b : Event) : Bool := a.due < b.due || (a.due == b.due && a.seq < b.seq)

/-- The event with the least `(due, seq)` of a list. -/
def leastEvent : List Event → Option Event
  | [] => none
  | e :: es =>
    match leastEvent es with
    | none => some e
    | some m => if m.before e then some m else some e

/-- The event `Advance(t)` fires next: the least of those due at or before `t` (R283). -/
def EventQueue.nextDue (q : EventQueue) (t : Nat) : Option Event := leastEvent (q.events.filter (fun e => e.due ≤ t))

/-! ### Backend queries (20_memory.md R70): each is one draw -/

/-- The backend after one query. -/
def Backend.advance (b : Backend) : Backend where
  discs := match b.discs with
    | _ :: d :: ds => d :: ds
    | ds => ds
  draws := b.draws + 1

/-- The backend has answered a query: no controller state changes (R70). -/
def State.queried (s : State) : State := { s with backend := s.backend.advance }

/-- `Backend.present()`. -/
def Backend.present (b : Backend) : Bool :=
  match b.discs with
  | [] => Config.freePresent b.draws
  | d :: _ => d.present

/-- The track range with the given ends: `1 <= first <= last <= 99` (R70; log entry 9). -/
def trackRange (a b : Fin 99) : Nat × Nat := (1 + min a.val b.val, 1 + max a.val b.val)

/-- `Backend.tracks()`: (first, last). -/
def Backend.tracks (b : Backend) : Nat × Nat :=
  match b.discs with
  | [] => trackRange (Config.freeTrackA b.draws) (Config.freeTrackB b.draws)
  | d :: _ => trackRange d.trackA d.trackB

/-- `Backend.start(t)`: a track's start, of track 0 the lead-out. -/
def Backend.start (b : Backend) (t : Nat) : Msf :=
  match b.discs with
  | [] => Config.freeStart b.draws t
  | d :: _ => (d.starts.lookup t).getD (Config.freeStart b.draws t)

/-- `Backend.read(p)`: a raw sector image, or a failure. -/
def Backend.read (b : Backend) (p : Msf) : Option (List Byte) :=
  match b.discs with
  | [] => Config.freeRead b.draws p
  | d :: _ => d.sectors.lookup p

/-- `Backend.readAudio(p)`: a PCM buffer, or a failure. -/
def Backend.readAudio (b : Backend) (p : Msf) : Option Pcm :=
  match b.discs with
  | [] => Config.freeAudio b.draws p
  | d :: _ => d.audio.lookup p

/-- Ask `Backend.present()`. -/
def State.askPresent (s : State) : Bool × State := (s.backend.present, s.queried)

/-- Ask `Backend.tracks()`. -/
def State.askTracks (s : State) : (Nat × Nat) × State := (s.backend.tracks, s.queried)

/-- Ask `Backend.start(t)`. -/
def State.askStart (t : Nat) (s : State) : Msf × State := (s.backend.start t, s.queried)

/-- `Backend.present() ? Backend.read(cur) : None` (44_sector_pipeline.md R262). -/
def State.askSector (s : State) : Option (List Byte) × State :=
  if s.backend.present then (s.queried.backend.read s.cur, s.queried.queried) else (none, s.queried)

/-- `Backend.present() ? Backend.readAudio(cur) : None` (44_sector_pipeline.md R266). -/
def State.askAudio (s : State) : Option Pcm × State :=
  if s.backend.present then (s.queried.backend.readAudio s.cur, s.queried.queried) else (none, s.queried)

/-! ### Raising an interrupt (45_irq_scheduler.md R288, R290; 41_command_pipeline.md R144; 60_exceptions.md R305) -/

/-- The 3-bit code of an interrupt type (30_encoding.md R84). -/
def IrqType.code : IrqType → BitVec 3
  | .dataReady => 1
  | .complete => 2
  | .ack => 3
  | .diskError => 5

/-- `T_RECHECK[type]` (45_irq_scheduler.md R288). -/
def recheckDelay (c : Config) : IrqType → Nat
  | .dataReady => c.tRecheckDataReady
  | .complete => c.tRecheckComplete
  | .ack => c.tRecheckAck
  | .diskError => c.tRecheckDiskError

/-- Whether a type code is enabled: `(type & irq_mask) != 0` (10_state.md R23). -/
def State.irqEnabled (s : State) (code : BitVec 3) : Bool := code.setWidth 8 &&& s.irqMask != 0

/-- `AssertLine()`: the pulse on the interrupt line, an output of the step (R290). -/
def State.assertLine (s : State) : State := { s with out := { s.out with line := true } }

/-- `if (code & irq_mask) != 0: AssertLine()`. -/
def State.signal (code : BitVec 3) (s : State) : State := if s.irqEnabled code then s.assertLine else s

/-- Set the interrupt latch. -/
def State.setLatch (code : BitVec 3) (s : State) : State := { s with latch := { pending := true, kind := code } }

/-- `GenerateIRQ(type)`: latch the type, signal the line if it is enabled, schedule one re-check (R288). -/
def State.generateIrq (type : IrqType) (s : State) : State :=
  ((s.setLatch type.code).signal type.code).schedule (recheckDelay s.cfg type) .irqRecheck 0

/-- Clear the response FIFO and push the bytes (41_command_pipeline.md R144). -/
def State.setResponse (bytes : List Byte) (s : State) : State :=
  { s with rfifo := s.rfifo.clear.pushAll s.cfg.respCap bytes }

/-- `Respond(bytes, type)`: the common tail of every answer (41_command_pipeline.md R144). -/
def State.respond (bytes : List Byte) (type : IrqType) (s : State) : State := (s.setResponse bytes).generateIrq type

/-! ### Starting a command (41_command_pipeline.md R141) -/

/-- `StartCommand(op, params)`: latch, phase Executing, a new generation, CMD_EXEC after `T_CMD[op]` (R141). -/
def State.startCommand (op : Byte) (params : List Byte) (s : State) : State :=
  { s with curOp := op, curParams := params, phase := .executing, cmdGen := s.cmdGen + 1 }.schedule
    (s.cfg.tCmd op) .cmdExec (s.cmdGen + 1)

/-! ### The acknowledgement (45_irq_scheduler.md R291, 41_command_pipeline.md R146; 60_exceptions.md R306) -/

/-- `PhaseOnAck()`: a waiting command retires and the queued one, if any, starts (R146). -/
def State.phaseOnAck (s : State) : State :=
  if s.phase = .waitingIrq then
    if s.queued.valid then
      { s with phase := .idle, queued := { s.queued with valid := false } }.startCommand s.queued.op s.queued.params
    else { s with phase := .idle }
  else s

/-- `AckIRQ()`: clear the latch, then `PhaseOnAck()` (R291). -/
def State.ackIrq (s : State) : State := { s with latch := { pending := false, kind := 0 } }.phaseOnAck

end Sys2Proof.Machine
end

