-- ==== Sys2Proof/Machine/Operands.lean ====
section
/-! DEFINITION. Operands: packed BCD (30_encoding.md R85), a command's parameters (R82), which counts a command takes and
which commands need a disc (43_commands.md R180, R183). -/

namespace Sys2Proof.Machine

/-- `validbcd(b)`: both digits at most 9 (30_encoding.md R85). -/
def validBcd (b : Byte) : Bool := b.toNat / 16 ≤ 9 && b.toNat % 16 ≤ 9

/-- `unbcd(b)`: the number of two decimal digits (30_encoding.md R85). -/
def unbcd (b : Byte) : Nat := b.toNat / 16 * 10 + b.toNat % 16

/-- `bcd(v)`: two decimal digits in one byte; used for `v` in 0..99 only (30_encoding.md R85; log entry 24). -/
def bcd (v : Nat) : Byte := BitVec.ofNat 8 (v / 10 * 16 + v % 10)

/-- `params[i]`; a handler reads only parameters its count check has found (30_encoding.md R82; log entry 23). -/
def param (p : List Byte) (i : Nat) : Byte := p.getD i 0x00

/-- `CountOK(op, n)`, for the opcodes 0x00 to 0x1E (43_commands.md R183). -/
def countOk (op : Byte) (n : Nat) : Bool :=
  match op.toNat with
  | 0x02 => n == 3
  | 0x03 => n ≤ 1
  | 0x0D => n == 2
  | 0x0E => n == 1
  | 0x12 => n == 1
  | 0x14 => n == 1
  | 0x17 => true
  | 0x18 => true
  | 0x19 => 1 ≤ n
  | 0x1D => n == 2
  | _ => n == 0

/-- `NeedsDisc(op)`: Play, ReadN, Standby, GetlocP, GetTN, GetTD, SeekL, SeekP, GetID, ReadS, ReadTOC
(43_commands.md R180). -/
def needsDisc (op : Byte) : Bool :=
  [0x03, 0x06, 0x07, 0x11, 0x13, 0x14, 0x15, 0x16, 0x1A, 0x1B, 0x1E].contains op.toNat

/-- The fewest parameters a command takes (43_commands.md R183): used to present a command with operands of zeros
(log entry 19). -/
def fewestParams (op : Byte) : Nat := ((List.range 17).find? (fun n => countOk op n)).getD 0

end Sys2Proof.Machine
end

