-- ==== Sys2Proof/Machine/Flags.lean ====
section
/-! DEFINITION. The named bits of `stat_p` (10_state.md R26), `mode` (R27) and `ctrl` (R22), the derived status byte
(40_fifo_and_registers.md R118), and the command results with their error responses (43_commands.md R182). -/

namespace Sys2Proof.Machine

/-- `stat_p` bit 0, ERROR. -/
def statError : Byte := 0x01
/-- `stat_p` bit 1, SPINNING. -/
def statSpinning : Byte := 0x02
/-- `stat_p` bit 4, CHECK_ERROR. -/
def statCheckError : Byte := 0x10
/-- `stat_p` bit 5, READING. -/
def statReading : Byte := 0x20
/-- `stat_p` bit 6, SEEKING. -/
def statSeeking : Byte := 0x40
/-- `stat_p` bit 7, PLAYING. -/
def statPlaying : Byte := 0x80

/-- Whether a byte has a bit of a mask set. -/
def hasBit (v mask : Byte) : Bool := v &&& mask != 0

/-- `mode` bit 1, AUTOPAUSE. -/
def modeAutoPause : Byte := 0x02
/-- `mode` bit 2, REPORT. -/
def modeReport : Byte := 0x04
/-- `mode` bit 7, SPEED. -/
def modeSpeed : Byte := 0x80

/-- `ctrl[0]`, PARAM_MODE (10_state.md R22). -/
def State.paramMode (s : State) : Bool := hasBit s.ctrl 0x01

/-- One bit of a status byte. -/
def flagBit (b : Bool) (mask : Byte) : Byte := if b then mask else 0x00

/-- `STAT`, the derived status a Port0 read returns (40_fifo_and_registers.md R118). -/
def State.statByte (s : State) : Byte :=
  flagBit (hasBit s.statP statError) 0x01
  ||| flagBit (hasBit s.statP statSeeking) 0x02
  ||| flagBit (hasBit s.statP statReading) 0x04
  ||| flagBit (s.pfifo.size < s.cfg.paramCap) 0x10
  ||| flagBit (0 < s.rfifo.size) 0x20
  ||| flagBit s.xfer.ready 0x40

/-- A handler's result: whether it succeeded, the response, the interrupt, the delay of a second phase
(41_command_pipeline.md R143, 43_commands.md R182). -/
structure Answer where
  ok : Bool
  bytes : List Byte
  irq : IrqType
  second : Option Nat
deriving DecidableEq, Repr

/-- `Ok(bytes, irq)` (43_commands.md R182). -/
def Answer.good (bytes : List Byte) (irq : IrqType) : Answer :=
  { ok := true, bytes := bytes, irq := irq, second := none }

/-- `TwoPhase(bytes, d)` (43_commands.md R182). -/
def Answer.twoPhase (bytes : List Byte) (d : Nat) : Answer :=
  { ok := true, bytes := bytes, irq := .ack, second := some d }

/-- `Err(code)`: `[stat_p | 0x11, code]` with DiskError (43_commands.md R182, 30_encoding.md R90). -/
def Answer.err (s : State) (code : Byte) : Answer :=
  { ok := false, bytes := [s.statP ||| 0x11, code], irq := .diskError, second := none }

/-- `NoDisc()`: `[0x11, 0x80]` with DiskError (43_commands.md R182). -/
def Answer.noDisc : Answer := { ok := false, bytes := [0x11, 0x80], irq := .diskError, second := none }

/-- Error code: invalid parameter value (30_encoding.md R89). -/
def errValue : Byte := 0x10
/-- Error code: wrong number of parameters (30_encoding.md R89). -/
def errCount : Byte := 0x20
/-- Error code: invalid command (30_encoding.md R89). -/
def errInvalid : Byte := 0x40
/-- Error code: not ready (30_encoding.md R89). -/
def errNotReady : Byte := 0x80

end Sys2Proof.Machine
end

