-- ==== Sys2Proof/Machine/Position.lean ====
section
/-! DEFINITION. Position arithmetic (42_seek.md R160 to R163). -/

namespace Sys2Proof.Machine

/-- The position of three naturals, each taken modulo its range; used within the ranges only (log entry 24). -/
def msfOfNats (m s f : Nat) : Msf := { m := Fin.ofNat 100 m, s := Fin.ofNat 60 s, f := Fin.ofNat 75 f }

/-- `lba(m, s, f) = (m*60 + s - 2)*75 + f`, a signed integer (42_seek.md R161). -/
def lba (p : Msf) : Int := ((p.m.val : Int) * 60 + (p.s.val : Int) - 2) * 75 + (p.f.val : Int)

/-- `absf(m, s, f) = (m*60 + s)*75 + f`, the absolute frame number (42_seek.md R161). -/
def absf (p : Msf) : Nat := (p.m.val * 60 + p.s.val) * 75 + p.f.val

/-- `msf_of_abs(n) = (n div 4500, (n mod 4500) div 75, n mod 75)` (42_seek.md R162). -/
def msfOfAbs (n : Nat) : Msf := msfOfNats (n / 4500) (n % 4500 / 75) (n % 75)

/-- `msf_of_lba(l) = msf_of_abs(l + 150)`, for `l` in -150..449,849 (42_seek.md R162; log entries 24, 29). -/
def msfOfLba (l : Int) : Msf := msfOfAbs (l + 150).toNat

/-- `advance(m, s, f)`: one sector forward with carry, from 99:59:74 to 00:00:00 (42_seek.md R163). -/
def advance (p : Msf) : Msf :=
  let f := p.f.val + 1
  let s := if f = 75 then p.s.val + 1 else p.s.val
  let f := if f = 75 then 0 else f
  let m := if s = 60 then p.m.val + 1 else p.m.val
  let s := if s = 60 then 0 else s
  let m := if m = 100 then 0 else m
  msfOfNats m s f

end Sys2Proof.Machine
end

