-- ==== Sys2Proof/Machine/Seek.lean ====
section
/-! DEFINITION. The seek model: distance, class, duration, SetLoc's descriptor, the start of a seek, the snap
(42_seek.md R164 to R169), and the drive reset of Init and Reset (70_reset_and_hazards.md R331). -/

namespace Sys2Proof.Machine

/-- The distance from one position to another, `|lba(b) - lba(a)|` (42_seek.md R164). -/
def seekDistance (a b : Msf) : Nat := (lba b - lba a).natAbs

/-- The class of a distance (42_seek.md R164). -/
def seekClass (d : Nat) : SeekClass :=
  if d = 0 then .none
  else if d ≤ 3 then .forward
  else if d ≤ 16 then .trackJump
  else if d ≤ 1000 then .medium
  else .long

/-- `SeekTicks(d)`, the duration of a seek over a distance (42_seek.md R165). -/
def seekTicks (c : Config) (d : Nat) : Nat :=
  if d = 0 then c.tSeekMin
  else if d ≤ 3 then c.tSeekMin
  else if d ≤ 16 then c.seekTjBase + d * c.seekTjPer
  else if d ≤ 1000 then c.seekMedBase + d * c.seekMedPer
  else min (c.seekLongBase + d * c.seekLongPer) c.seekCap

/-- `ComputeSeek(p)`: SetLoc's target and descriptor, from the position of now (42_seek.md R166). -/
def computeSeek (p : Msf) (s : State) : State :=
  { s with
    target := p
    setlocPending := true
    seek := { s.seek with
      dist := seekDistance s.cur p
      cls := seekClass (seekDistance s.cur p)
      ticks := seekTicks s.cfg (seekDistance s.cur p) } }

/-- A seek without a pending SetLoc goes to the position of now, over distance 0 (42_seek.md R167). -/
def seekInPlace (s : State) : State :=
  if s.setlocPending then s
  else { s with target := s.cur, seek := { s.seek with dist := 0, cls := .none, ticks := s.cfg.tSeekMin } }

/-- `StartSeek(k)`, with `k` seekingLogical or seekingPhysical (42_seek.md R167). -/
def startSeek (k : DriveState) (s : State) : State :=
  let s := seekInPlace s
  let s := { s with setlocPending := false, driveGen := s.driveGen + 1, drive := k }
  let s := (s.statSet (statSeeking ||| statSpinning)).statClear (statReading ||| statPlaying)
  let s := { s with seek := { s.seek with startAt := s.now, doneAt := s.now + s.seek.ticks } }
  s.schedule s.seek.ticks .seekDone s.driveGen

/-- `SnapSeek()`, the first step of every read and play command (42_seek.md R169). -/
def snapSeek (s : State) : State :=
  let pending := s.setlocPending || s.drive == .seekingLogical || s.drive == .seekingPhysical
  { s with cur := if pending then s.target else s.cur, setlocPending := false }.statClear statSeeking

/-- `ResetDrive()`, the reset that Init and Reset perform (70_reset_and_hazards.md R331). -/
def resetDrive (s : State) : State :=
  { s with
    mode := 0x00
    filterFile := 0x00
    filterChannel := 0x00
    muted := false
    reportCount := 0
    cur := initialPosition
    target := initialPosition
    setlocPending := false
    seek := { s.seek with dist := 0, cls := .none, ticks := s.cfg.tSeekMin }
    xfer := { s.xfer with index := 0, size := 0, ready := false }
    lastHdr := List.replicate 8 0x00
    driveGen := s.driveGen + 1 }

end Sys2Proof.Machine
end

