-- ==== Sys2Proof/Machine/Sector.lean ====
section
/-! DEFINITION. The data path: the cadence, the start of a read and of play, the delivery of a sector, the backend
failure, the track of a position, auto-pause and the play report (44_sector_pipeline.md R260 to R270). -/

namespace Sys2Proof.Machine

/-- `SectorPeriod(mode)` (44_sector_pipeline.md R260). -/
def sectorPeriod (c : Config) (mode : Byte) : Nat :=
  if hasBit mode modeSpeed then c.sectorPeriod2x else c.sectorPeriod1x

/-- `BeginRead()`, shared by ReadN and ReadS (44_sector_pipeline.md R261). -/
def beginRead (s : State) : State :=
  let s := { s with driveGen := s.driveGen + 1, drive := .reading }
  let s := (s.statSet (statReading ||| statSpinning)).statClear (statPlaying ||| statSeeking)
  s.schedule (sectorPeriod s.cfg s.mode) .sectorRead s.driveGen

/-- `StartPlay()`, the tail of Play (44_sector_pipeline.md R265). -/
def startPlay (s : State) : State :=
  let s := { s with driveGen := s.driveGen + 1, drive := .playing, reportCount := 0 }
  let s := (s.statSet (statPlaying ||| statSpinning)).statClear (statReading ||| statSeeking)
  s.schedule s.cfg.sectorPeriod1x .playSector s.driveGen

/-- `ReadFail()`, the backend-failure path of reads and play (44_sector_pipeline.md R263). -/
def readFail (s : State) : State :=
  let s := (s.statSet statError).statClear (statReading ||| statPlaying)
  let s := { s with drive := .error, driveGen := s.driveGen + 1 }
  s.respond [s.statP, errNotReady] .diskError

/-- The transfer buffer holding a raw image, byte 0 first (44_sector_pipeline.md R262, 20_memory.md R61). -/
def Xfer.holding (n : Nat) (image : List Byte) : Xfer :=
  { buf := Memory.loadFrom 0 (image.take n), index := 0, size := n, ready := true }

/-- Bytes 12..19 of a raw image, for GetlocL (44_sector_pipeline.md R262, 30_encoding.md R91). -/
def headerBytes (n : Nat) (image : List Byte) : List Byte := (List.range 8).map (fun i => imageByte image n (12 + i))

/-- The delivery of a sector: buffer, header copy, DataReady, the next position, the next event
(44_sector_pipeline.md R262). -/
def deliverSector (gen : Nat) (image : List Byte) (s : State) : State :=
  let s := { s with
    xfer := Xfer.holding s.cfg.sectorBytes image
    lastHdr := headerBytes s.cfg.sectorBytes image }
  let s := s.respond [s.statP] .dataReady
  let s := { s with cur := advance s.cur }
  s.schedule (sectorPeriod s.cfg s.mode) .sectorRead gen

/-- The tracks `t .. t+n-1` asked one after another, keeping the last that starts at or before the position
(44_sector_pipeline.md R269; log entry 10). -/
def trackScan (p : Msf) (t : Nat) : Nat → Nat → State → Nat × State
  | 0, best, s => (best, s)
  | n + 1, best, s =>
    trackScan p (t + 1) n (if absf (s.backend.start t) ≤ absf p then t else best) s.queried

/-- `TrackOf(p)`: the greatest track of `first..last` that starts at or before `p`, `first` if none does
(44_sector_pipeline.md R269). -/
def trackOf (p : Msf) (s : State) : Nat × State :=
  let tracks := s.askTracks
  trackScan p tracks.1.1 (tracks.1.2 + 1 - tracks.1.1) tracks.1.1 tracks.2

/-- `EndOfTrack(p)`: whether the sector after `p` starts the next track, or the lead-out (44_sector_pipeline.md R267). -/
def endOfTrack (p : Msf) (s : State) : Bool × State :=
  let t := trackOf p s
  let tracks := t.2.askTracks
  let next := tracks.2.askStart (if t.1 < tracks.1.2 then t.1 + 1 else 0)
  (absf (advance p) == absf next.1, next.2)

/-- `AutoPause()` (44_sector_pipeline.md R267). -/
def autoPause (s : State) : State :=
  let s := { s.statClear statPlaying with drive := .idle }
  s.respond [s.statP] .complete

/-- `AudioOut(a)`: the PCM buffer on the audio output unless muted (44_sector_pipeline.md R268). -/
def audioOut (a : Pcm) (s : State) : State :=
  if s.muted then s else { s with out := { s.out with audio := some a } }

/-- `ReportBytes(p)`: the play report of the sector just played (44_sector_pipeline.md R270). -/
def reportBytes (statP : Byte) (track : Nat) (p : Msf) : List Byte :=
  [statP, bcd track, 0x01, bcd p.m.val, bcd p.s.val, bcd p.f.val, 0x00, 0x00]

end Sys2Proof.Machine
end

