-- ==== Sys2Proof/Machine/Commands.lean ====
section
/-! DEFINITION. The command handlers and the commands' meanings (43_commands.md). A command constructor's meaning is what
the command does when its CMD_EXEC event runs it: the dispatcher's checks (R180, R181, R183) on the latched parameters,
the handler, the response and the next phase (41_command_pipeline.md R143). Log entry 20. -/

namespace Sys2Proof.Machine

/-- A handler: from the latched parameters and the state, its result and the state it leaves. -/
abbrev Handler := List Byte → State → Answer × State

/-- What follows a handler: a success clears ERROR and CHECK_ERROR once its response bytes are built
(43_commands.md R180, R181). -/
def settle (r : Answer × State) : Answer × State :=
  if r.1.ok then (r.1, r.2.statClear (statError ||| statCheckError)) else r

/-- `Dispatch(op, params)` for the opcodes 0x00 to 0x1E: parameter count, disc presence, handler, in that order
(43_commands.md R180, R181). -/
def dispatch (op : Byte) (h : Handler) (s : State) : Answer × State :=
  if countOk op s.curParams.length then
    if needsDisc op then
      if s.askPresent.1 then settle (h s.curParams s.askPresent.2) else (Answer.noDisc, s.askPresent.2)
    else settle (h s.curParams s)
  else (Answer.err s errCount, s)

/-- The tail of CMD_EXEC: the response, then phase SecondResponse with CMD_SECOND scheduled, or WaitingIrq
(41_command_pipeline.md R143). -/
def conclude (r : Answer × State) : State :=
  match r.1.second with
  | some d => { r.2.respond r.1.bytes r.1.irq with phase := .secondResponse }.schedule d .cmdSecond r.2.cmdGen
  | none => { r.2.respond r.1.bytes r.1.irq with phase := .waitingIrq }

/-- A command from its checks to its first response. -/
def runCommand (op : Byte) (h : Handler) (s : State) : State := conclude (dispatch op h s)

/-- The invalid-command path: `Err(0x40)` before any other check (43_commands.md R215). -/
def runInvalid (s : State) : State := conclude (Answer.err s errInvalid, s)

/-- The answer of most commands: the status byte, with ACK (30_encoding.md R83). -/
def statusAnswer (s : State) : Answer × State := (Answer.good [s.statP] .ack, s)

/-! ### Handlers -/

/-- Sync (43_commands.md R184). -/
def handleSync : Handler := fun _ s => statusAnswer s

/-- Getstat (43_commands.md R185). -/
def handleGetstat : Handler := fun _ s => statusAnswer s

/-- Setloc: three BCD bytes, second below 60, frame below 75 (43_commands.md R186). -/
def handleSetloc : Handler := fun p s =>
  if validBcd (param p 0) && validBcd (param p 1) && validBcd (param p 2) then
    if 60 ≤ unbcd (param p 1) || 75 ≤ unbcd (param p 2) then (Answer.err s errValue, s)
    else statusAnswer (computeSeek (msfOfNats (unbcd (param p 0)) (unbcd (param p 1)) (unbcd (param p 2))) s)
  else (Answer.err s errValue, s)

/-- Play of a track: the track's start becomes the position (43_commands.md R187). -/
def playTrack (t : Nat) (s : State) : Answer × State :=
  let tracks := s.askTracks
  if t < tracks.1.1 || tracks.1.2 < t then (Answer.err s errValue, tracks.2)
  else
    let start := (snapSeek tracks.2).askStart t
    statusAnswer (startPlay { start.2 with cur := start.1 })

/-- Play: from the current or pending position, or from a track given in BCD (43_commands.md R187). -/
def handlePlay : Handler := fun p s =>
  if p.length = 1 ∧ param p 0 ≠ 0x00 then
    if validBcd (param p 0) then playTrack (unbcd (param p 0)) s else (Answer.err s errValue, s)
  else statusAnswer (startPlay (snapSeek s))

/-- Forward: no effect but its answer (43_commands.md R188). -/
def handleForward : Handler := fun _ s => statusAnswer s

/-- Backward: no effect but its answer (43_commands.md R189). -/
def handleBackward : Handler := fun _ s => statusAnswer s

/-- ReadN (43_commands.md R190). -/
def handleReadN : Handler := fun _ s => statusAnswer (beginRead (snapSeek s))

/-- Standby: the motor on (43_commands.md R191). -/
def handleStandby : Handler := fun _ s => statusAnswer (s.statSet statSpinning)

/-- The first phase of Stop and Pause: a new drive session, the drive state, two phases (43_commands.md R192, R193). -/
def haltDrive (k : DriveState) (delay : Nat) (s : State) : Answer × State :=
  (Answer.twoPhase [s.statP] delay, { s with driveGen := s.driveGen + 1, drive := k })

/-- Stop, first phase (43_commands.md R192). -/
def handleStop : Handler := fun _ s => haltDrive .stopping s.cfg.t2Stop s

/-- Pause, first phase (43_commands.md R193). -/
def handlePause : Handler := fun _ s => haltDrive .pausing s.cfg.t2Pause s

/-- Init, first phase: the drive reset, `stat_p` not yet changed (43_commands.md R194). -/
def handleInit : Handler := fun _ s =>
  (Answer.twoPhase [s.statP] s.cfg.t2Init, { resetDrive s with drive := .resetting })

/-- Mute (43_commands.md R195). -/
def handleMute : Handler := fun _ s => statusAnswer { s with muted := true }

/-- Demute (43_commands.md R196). -/
def handleDemute : Handler := fun _ s => statusAnswer { s with muted := false }

/-- Setfilter (43_commands.md R197). -/
def handleSetfilter : Handler := fun p s =>
  statusAnswer { s with filterFile := param p 0, filterChannel := param p 1 }

/-- Setmode (43_commands.md R198). -/
def handleSetmode : Handler := fun p s => statusAnswer { s with mode := param p 0 }

/-- Getparam (43_commands.md R199). -/
def handleGetparam : Handler := fun _ s =>
  (Answer.good [s.statP, s.mode, 0x00, s.filterFile, s.filterChannel] .ack, s)

/-- GetlocL (43_commands.md R200). -/
def handleGetlocL : Handler := fun _ s => (Answer.good s.lastHdr .ack, s)

/-- The response of GetlocP for a position on a track that starts at `start` (43_commands.md R201, 30_encoding.md R83). -/
def locationBytes (track : Nat) (start p : Msf) : List Byte :=
  let rel := msfOfAbs (absf p - absf start)
  [bcd track, 0x01, bcd rel.m.val, bcd rel.s.val, bcd rel.f.val, bcd p.m.val, bcd p.s.val, bcd p.f.val]

/-- GetlocP (43_commands.md R201). -/
def handleGetlocP : Handler := fun _ s =>
  let t := trackOf s.cur s
  let start := t.2.askStart t.1
  (Answer.good (locationBytes t.1 start.1 s.cur) .ack, start.2)

/-- SetSession: only session 1 exists (43_commands.md R202). -/
def handleSetSession : Handler := fun p s =>
  if param p 0 = 0x01 then statusAnswer s else (Answer.err s errValue, s)

/-- GetTN (43_commands.md R203). -/
def handleGetTN : Handler := fun _ s =>
  let tracks := s.askTracks
  (Answer.good [s.statP, bcd tracks.1.1, bcd tracks.1.2] .ack, tracks.2)

/-- GetTD of a track number: 0 asks for the lead-out (43_commands.md R204). -/
def trackStartAnswer (t : Nat) (s : State) : Answer × State :=
  let tracks := s.askTracks
  if tracks.1.2 < t || (t != 0 && t < tracks.1.1) then (Answer.err s errValue, tracks.2)
  else
    let start := tracks.2.askStart t
    (Answer.good [s.statP, bcd start.1.m.val, bcd start.1.s.val] .ack, start.2)

/-- GetTD (43_commands.md R204). -/
def handleGetTD : Handler := fun p s =>
  if validBcd (param p 0) then trackStartAnswer (unbcd (param p 0)) s else (Answer.err s errValue, s)

/-- SeekL (43_commands.md R205). -/
def handleSeekL : Handler := fun _ s => statusAnswer (startSeek .seekingLogical s)

/-- SeekP (43_commands.md R206). -/
def handleSeekP : Handler := fun _ s => statusAnswer (startSeek .seekingPhysical s)

/-- SetClock: no effect but its answer (43_commands.md R207). -/
def handleSetClock : Handler := fun _ s => statusAnswer s

/-- GetClock: no effect but its answer (43_commands.md R208). -/
def handleGetClock : Handler := fun _ s => statusAnswer s

/-- Test: sub-function 0x20 only (43_commands.md R209). -/
def handleTest : Handler := fun p s =>
  if param p 0 = 0x20 then (Answer.good s.cfg.test20Bytes .ack, s) else (Answer.err s errValue, s)

/-- GetID with a disc present: Complete, not ACK (43_commands.md R210). -/
def handleGetID : Handler := fun _ s =>
  (Answer.good [s.statP, 0x02, 0x00, 0x00, 0x00, 0x53, 0x43, 0x45, 0x58] .complete, s)

/-- ReadS (43_commands.md R211). -/
def handleReadS : Handler := fun _ s => statusAnswer (beginRead (snapSeek s))

/-- Reset: the drive reset, `stat_p` zero, drive Idle (43_commands.md R212). -/
def handleReset : Handler := fun _ s => statusAnswer { resetDrive s with statP := 0x00, drive := .idle }

/-- GetQ: no effect but its answer (43_commands.md R213). -/
def handleGetQ : Handler := fun _ s => statusAnswer s

/-- ReadTOC, first phase (43_commands.md R214). -/
def handleReadTOC : Handler := fun _ s => (Answer.twoPhase [s.statP] s.cfg.t2ReadToc, s)

/-! ### Second phases (41_command_pipeline.md R145) -/

/-- `Finish(Stop)`: PLAYING, SEEKING, READING, SPINNING cleared, drive Idle (43_commands.md R192). -/
def finishStop (s : State) : State := { s.statClear 0xE2 with drive := .idle }

/-- `Finish(Pause)`: PLAYING, SEEKING, READING cleared, drive Idle (43_commands.md R193). -/
def finishPause (s : State) : State := { s.statClear 0xE0 with drive := .idle }

/-- `Finish(Init)`: READING, SEEKING, PLAYING cleared, SPINNING as a disc is present, drive Idle (43_commands.md R194). -/
def finishInit (s : State) : State :=
  let s := s.statClear (statReading ||| statSeeking ||| statPlaying)
  let disc := s.askPresent
  let s := if disc.1 then disc.2.statSet statSpinning else disc.2.statClear statSpinning
  { s with drive := .idle }

/-- `Finish(ReadTOC)`: SPINNING set (43_commands.md R214). -/
def finishReadTOC (s : State) : State := s.statSet statSpinning

/-- `Finish(op)`, for the four two-phase commands only; its response is `[stat_p]` (41_command_pipeline.md R145). -/
def finish (op : Byte) (s : State) : Option State :=
  match op.toNat with
  | 0x08 => some (finishStop s)
  | 0x09 => some (finishPause s)
  | 0x0A => some (finishInit s)
  | 0x1E => some (finishReadTOC s)
  | _ => none

/-! ### Meanings: one for each command row -/

/-- Sync (43_commands.md R184). -/
def execSync (s : State) : StepResult := .next (runCommand 0x00 handleSync s)

/-- Getstat (43_commands.md R185). -/
def execGetstat (s : State) : StepResult := .next (runCommand 0x01 handleGetstat s)

/-- Setloc (43_commands.md R186). -/
def execSetloc (s : State) : StepResult := .next (runCommand 0x02 handleSetloc s)

/-- Play (43_commands.md R187). -/
def execPlay (s : State) : StepResult := .next (runCommand 0x03 handlePlay s)

/-- Forward (43_commands.md R188). -/
def execForward (s : State) : StepResult := .next (runCommand 0x04 handleForward s)

/-- Backward (43_commands.md R189). -/
def execBackward (s : State) : StepResult := .next (runCommand 0x05 handleBackward s)

/-- ReadN (43_commands.md R190). -/
def execReadN (s : State) : StepResult := .next (runCommand 0x06 handleReadN s)

/-- Standby (43_commands.md R191). -/
def execStandby (s : State) : StepResult := .next (runCommand 0x07 handleStandby s)

/-- Stop (43_commands.md R192). -/
def execStop (s : State) : StepResult := .next (runCommand 0x08 handleStop s)

/-- Pause (43_commands.md R193). -/
def execPause (s : State) : StepResult := .next (runCommand 0x09 handlePause s)

/-- Init (43_commands.md R194). -/
def execInit (s : State) : StepResult := .next (runCommand 0x0A handleInit s)

/-- Mute (43_commands.md R195). -/
def execMute (s : State) : StepResult := .next (runCommand 0x0B handleMute s)

/-- Demute (43_commands.md R196). -/
def execDemute (s : State) : StepResult := .next (runCommand 0x0C handleDemute s)

/-- Setfilter (43_commands.md R197). -/
def execSetfilter (s : State) : StepResult := .next (runCommand 0x0D handleSetfilter s)

/-- Setmode (43_commands.md R198). -/
def execSetmode (s : State) : StepResult := .next (runCommand 0x0E handleSetmode s)

/-- Getparam (43_commands.md R199). -/
def execGetparam (s : State) : StepResult := .next (runCommand 0x0F handleGetparam s)

/-- GetlocL (43_commands.md R200). -/
def execGetlocL (s : State) : StepResult := .next (runCommand 0x10 handleGetlocL s)

/-- GetlocP (43_commands.md R201). -/
def execGetlocP (s : State) : StepResult := .next (runCommand 0x11 handleGetlocP s)

/-- SetSession (43_commands.md R202). -/
def execSetSession (s : State) : StepResult := .next (runCommand 0x12 handleSetSession s)

/-- GetTN (43_commands.md R203). -/
def execGetTN (s : State) : StepResult := .next (runCommand 0x13 handleGetTN s)

/-- GetTD (43_commands.md R204). -/
def execGetTD (s : State) : StepResult := .next (runCommand 0x14 handleGetTD s)

/-- SeekL (43_commands.md R205). -/
def execSeekL (s : State) : StepResult := .next (runCommand 0x15 handleSeekL s)

/-- SeekP (43_commands.md R206). -/
def execSeekP (s : State) : StepResult := .next (runCommand 0x16 handleSeekP s)

/-- SetClock (43_commands.md R207). -/
def execSetClock (s : State) : StepResult := .next (runCommand 0x17 handleSetClock s)

/-- GetClock (43_commands.md R208). -/
def execGetClock (s : State) : StepResult := .next (runCommand 0x18 handleGetClock s)

/-- Test (43_commands.md R209). -/
def execTest (s : State) : StepResult := .next (runCommand 0x19 handleTest s)

/-- GetID (43_commands.md R210). -/
def execGetID (s : State) : StepResult := .next (runCommand 0x1A handleGetID s)

/-- ReadS (43_commands.md R211). -/
def execReadS (s : State) : StepResult := .next (runCommand 0x1B handleReadS s)

/-- Reset (43_commands.md R212). -/
def execReset (s : State) : StepResult := .next (runCommand 0x1C handleReset s)

/-- GetQ (43_commands.md R213). -/
def execGetQ (s : State) : StepResult := .next (runCommand 0x1D handleGetQ s)

/-- ReadTOC (43_commands.md R214). -/
def execReadTOC (s : State) : StepResult := .next (runCommand 0x1E handleReadTOC s)

/-- The invalid command byte 0x1F (43_commands.md R215). -/
def execInvalid1F (s : State) : StepResult := .next (runInvalid s)

/-- The invalid command bytes 0x20..0x3F (43_commands.md R215). -/
def execInvalid20 (_op : Byte) (s : State) : StepResult := .next (runInvalid s)

/-- The invalid command bytes 0x40..0x7F (43_commands.md R215). -/
def execInvalid40 (_op : Byte) (s : State) : StepResult := .next (runInvalid s)

/-- The invalid command bytes 0x80..0xFF (43_commands.md R215). -/
def execInvalid80 (_op : Byte) (s : State) : StepResult := .next (runInvalid s)

/-- The command table: the meaning of each opcode 0x00 to 0x1E, in order (43_commands.md R180, 30_encoding.md R81). -/
def commandTable : List (State → StepResult) := [
  execSync, execGetstat, execSetloc, execPlay, execForward, execBackward, execReadN, execStandby,
  execStop, execPause, execInit, execMute, execDemute, execSetfilter, execSetmode, execGetparam,
  execGetlocL, execGetlocP, execSetSession, execGetTN, execGetTD, execSeekL, execSeekP, execSetClock,
  execGetClock, execTest, execGetID, execReadS, execReset, execGetQ, execReadTOC]

/-- The dispatch on the latched opcode, the whole byte: the table, or the invalid-command path of the byte's row
(43_commands.md R180, R215; 90_conflicts.md C10). -/
def dispatchOpcode (op : Byte) (s : State) : StepResult :=
  match commandTable[op.toNat]? with
  | some meaning => meaning s
  | none =>
    if op = 0x1F then execInvalid1F s
    else if op.toNat < 0x40 then execInvalid20 op s
    else if op.toNat < 0x80 then execInvalid40 op s
    else execInvalid80 op s

end Sys2Proof.Machine
end

