-- ==== Sys2Proof/Machine/Events.lean ====
section
/-! DEFINITION. The bodies of the six internal events (41_command_pipeline.md R143, R145; 42_seek.md R168;
44_sector_pipeline.md R262, R266; 45_irq_scheduler.md R289), each with its staleness guard (45 R285) and its deferral
while an interrupt is pending (45 R287). -/

namespace Sys2Proof.Machine

/-- `Schedule(T_DEFER, kind, gen)`: the whole effect of a deferred event (45_irq_scheduler.md R287). -/
def State.defer (kind : EventKind) (gen : Nat) (s : State) : State := s.schedule s.cfg.tDefer kind gen

/-- CMD_EXEC: run the latched command's handler (41_command_pipeline.md R143). -/
def execCmdExec (g : Nat) (s : State) : StepResult :=
  if g ≠ s.cmdGen ∨ s.phase ≠ .executing then .next s
  else if s.latch.pending then .next (s.defer .cmdExec g)
  else dispatchOpcode s.curOp s

/-- CMD_SECOND: the final status transition and the Complete response (41_command_pipeline.md R145).
A latched command without a second phase is a fault (log entry 16). -/
def execCmdSecond (g : Nat) (s : State) : StepResult :=
  if g ≠ s.cmdGen ∨ s.phase ≠ .secondResponse then .next s
  else if s.latch.pending then .next (s.defer .cmdSecond g)
  else
    match finish s.curOp s with
    | some t => .next { t.respond [t.statP] .complete with phase := .waitingIrq }
    | none => .fault (.noSecondPhase s.curOp)

/-- The completion of a seek: position at the target, SEEKING cleared, drive Idle, and a Complete response where the
configuration asks for one (42_seek.md R168). -/
def finishSeek (s : State) : State :=
  let s := { s.statClear statSeeking with cur := s.target, drive := .idle }
  if s.cfg.seekCompleteIrq then s.respond [s.statP] .complete else s

/-- SEEK_DONE (42_seek.md R168). -/
def execSeekDone (g : Nat) (s : State) : StepResult :=
  if g ≠ s.driveGen ∨ (s.drive ≠ .seekingLogical ∧ s.drive ≠ .seekingPhysical) then .next s
  else if s.cfg.seekCompleteIrq ∧ s.latch.pending then .next (s.defer .seekDone g)
  else .next (finishSeek s)

/-- SECTOR_READ, the cadence timer (44_sector_pipeline.md R262). -/
def execSectorRead (g : Nat) (s : State) : StepResult :=
  if g ≠ s.driveGen ∨ s.drive ≠ .reading then .next s
  else if s.latch.pending then .next (s.defer .sectorRead g)
  else
    .next (match s.askSector.1 with
      | none => readFail s.askSector.2
      | some image => deliverSector g image s.askSector.2)

/-- A play sector that is not deferred: output, next position, then auto-pause, or the report if it is due, and the
next event (44_sector_pipeline.md R266). -/
def playOn (g : Nat) (a : Pcm) (ended report : Bool) (s : State) : State :=
  let p := s.cur
  let s := audioOut a s
  let s := { s with cur := advance s.cur, reportCount := (s.reportCount + 1) % s.cfg.reportN }
  if ended then autoPause s
  else
    let track := trackOf p s
    let s := if report then track.2.respond (reportBytes s.statP track.1 p) .dataReady else s
    s.schedule s.cfg.sectorPeriod1x .playSector g

/-- Whether the play sector is the last of its track, with AUTOPAUSE set; the track is asked only then
(44_sector_pipeline.md R266, R267). -/
def autoPauseDue (s : State) : Bool × State :=
  if hasBit s.mode modeAutoPause then endOfTrack s.cur s else (false, s)

/-- Whether the play sector is to be followed by a report, when it does not end the track (44_sector_pipeline.md R266). -/
def reportDue (s : State) : Bool := hasBit s.mode modeReport && (s.reportCount + 1) % s.cfg.reportN == 0

/-- The body of a live PLAY_SECTOR (44_sector_pipeline.md R266): it decides whether it will raise an interrupt before it
changes anything, and defers as a whole if it would while one is pending. -/
def playSectorLive (g : Nat) (s : State) : State :=
  match s.askAudio.1 with
  | none => if s.latch.pending then s.askAudio.2.defer .playSector g else readFail s.askAudio.2
  | some a =>
    let asked := autoPauseDue s.askAudio.2
    let report := !asked.1 && reportDue s
    if (asked.1 || report) && s.latch.pending then asked.2.defer .playSector g
    else playOn g a asked.1 report asked.2

/-- PLAY_SECTOR (44_sector_pipeline.md R266). -/
def execPlaySector (g : Nat) (s : State) : StepResult :=
  if g ≠ s.driveGen ∨ s.drive ≠ .playing then .next s else .next (playSectorLive g s)

/-- IRQ_RECHECK: signal again a latch that is still pending and enabled; no state changes (45_irq_scheduler.md R289). -/
def execIrqRecheck (_g : Nat) (s : State) : StepResult :=
  .next (if s.latch.pending then s.signal s.latch.kind else s)

end Sys2Proof.Machine
end

