-- ==== Sys2Proof/Machine/Ports.lean ====
section
/-! DEFINITION. The host port operations (40_fifo_and_registers.md R117 to R126) and the issue of a command
(41_command_pipeline.md R140). -/

namespace Sys2Proof.Machine

/-- The byte a read returns to the host, an output of the step. -/
def State.returning (b : Byte) (s : State) : State := { s with out := { s.out with bus := some b } }

/-- `IssueCommand(op)`: take the parameters, empty `pfifo`, then start the command, queue it, or drop it
(41_command_pipeline.md R140, R142). -/
def issueCommand (op : Byte) (s : State) : State :=
  let params := s.pfifo.contents s.cfg.paramCap
  let s := { s with pfifo := s.pfifo.clear }
  if s.phase = .idle then s.startCommand op params
  else if s.queued.valid then s
  else { s with queued := { valid := true, op := op, params := params } }

/-- `Push(pfifo, v)` (40_fifo_and_registers.md R111). -/
def pushParam (v : Byte) (s : State) : State := { s with pfifo := s.pfifo.push s.cfg.paramCap v }

/-- P0R: the derived status, no other effect (40_fifo_and_registers.md R118). -/
def execP0r (s : State) : StepResult := .next (s.returning s.statByte)

/-- P0W: the control register (40_fifo_and_registers.md R117). -/
def execP0w (v : Byte) (s : State) : StepResult := .next { s with ctrl := v }

/-- P1R: pop a response byte (40_fifo_and_registers.md R120). -/
def execP1r (s : State) : StepResult :=
  let popped := s.rfifo.pop s.cfg.respCap
  .next ({ s with rfifo := popped.2 }.returning popped.1)

/-- P1W_CMD: issue a command (40_fifo_and_registers.md R119). -/
def execP1wCmd (v : Byte) (s : State) : StepResult := .next (issueCommand v s)

/-- P1W_PARAM: push a parameter (40_fifo_and_registers.md R119). -/
def execP1wParam (v : Byte) (s : State) : StepResult := .next (pushParam v s)

/-- P2R: read a sector byte; 0x00 and nothing changed when no data is ready (40_fifo_and_registers.md R122). -/
def execP2r (s : State) : StepResult :=
  if s.xfer.ready then
    .next ({ s with xfer := { s.xfer with
      index := s.xfer.index + 1
      ready := s.xfer.index + 1 != s.xfer.size } }.returning (s.xfer.buf.read s.xfer.index))
  else .next (s.returning 0x00)

/-- P2W_NOP: ignored (40_fifo_and_registers.md R121). -/
def execP2wNop (_v : Byte) (s : State) : StepResult := .next s

/-- P2W_PARAM: push a parameter (40_fifo_and_registers.md R121). -/
def execP2wParam (v : Byte) (s : State) : StepResult := .next (pushParam v s)

/-- P3R: read and acknowledge the interrupt (40_fifo_and_registers.md R125). -/
def execP3r (s : State) : StepResult :=
  .next ((if s.latch.pending then s.ackIrq else s).returning (s.latch.kind.setWidth 8))

/-- P3W_REQ: bit 7 shows or hides undrained data, bit 6 clears the parameter FIFO (40_fifo_and_registers.md R123). -/
def execP3wReq (v : Byte) (s : State) : StepResult :=
  .next { s with
    xfer := { s.xfer with ready := hasBit v 0x80 && decide (s.xfer.index < s.xfer.size) }
    pfifo := if hasBit v 0x40 then s.pfifo.clear else s.pfifo }

/-- P3W_MASK: the interrupt mask (40_fifo_and_registers.md R124). -/
def execP3wMask (v : Byte) (s : State) : StepResult := .next { s with irqMask := v }

end Sys2Proof.Machine
end

