-- ==== Sys2Proof/Machine/Dispatch.lean ====
section
/-! DEFINITION. The dispatch: one arm for each instruction, each one call of its meaning. -/

namespace Sys2Proof.Machine

def exec (i : Instr) (s : State) : Host.Outcome State Fault Refusal :=
  match i with
  | .p0r => Sys2Proof.Machine.execP0r s
  | .p0w v => Sys2Proof.Machine.execP0w v s
  | .p1r => Sys2Proof.Machine.execP1r s
  | .p1wCmd v => Sys2Proof.Machine.execP1wCmd v s
  | .p1wParam v => Sys2Proof.Machine.execP1wParam v s
  | .p2r => Sys2Proof.Machine.execP2r s
  | .p2wNop v => Sys2Proof.Machine.execP2wNop v s
  | .p2wParam v => Sys2Proof.Machine.execP2wParam v s
  | .p3r => Sys2Proof.Machine.execP3r s
  | .p3wReq v => Sys2Proof.Machine.execP3wReq v s
  | .p3wMask v => Sys2Proof.Machine.execP3wMask v s
  | .sync => Sys2Proof.Machine.execSync s
  | .getstat => Sys2Proof.Machine.execGetstat s
  | .setloc => Sys2Proof.Machine.execSetloc s
  | .play => Sys2Proof.Machine.execPlay s
  | .forward => Sys2Proof.Machine.execForward s
  | .backward => Sys2Proof.Machine.execBackward s
  | .readN => Sys2Proof.Machine.execReadN s
  | .standby => Sys2Proof.Machine.execStandby s
  | .stop => Sys2Proof.Machine.execStop s
  | .pause => Sys2Proof.Machine.execPause s
  | .init => Sys2Proof.Machine.execInit s
  | .mute => Sys2Proof.Machine.execMute s
  | .demute => Sys2Proof.Machine.execDemute s
  | .setfilter => Sys2Proof.Machine.execSetfilter s
  | .setmode => Sys2Proof.Machine.execSetmode s
  | .getparam => Sys2Proof.Machine.execGetparam s
  | .getlocL => Sys2Proof.Machine.execGetlocL s
  | .getlocP => Sys2Proof.Machine.execGetlocP s
  | .setSession => Sys2Proof.Machine.execSetSession s
  | .getTN => Sys2Proof.Machine.execGetTN s
  | .getTD => Sys2Proof.Machine.execGetTD s
  | .seekL => Sys2Proof.Machine.execSeekL s
  | .seekP => Sys2Proof.Machine.execSeekP s
  | .setClock => Sys2Proof.Machine.execSetClock s
  | .getClock => Sys2Proof.Machine.execGetClock s
  | .test => Sys2Proof.Machine.execTest s
  | .getID => Sys2Proof.Machine.execGetID s
  | .readS => Sys2Proof.Machine.execReadS s
  | .reset => Sys2Proof.Machine.execReset s
  | .getQ => Sys2Proof.Machine.execGetQ s
  | .readTOC => Sys2Proof.Machine.execReadTOC s
  | .invalid1F => Sys2Proof.Machine.execInvalid1F s
  | .invalid20 v => Sys2Proof.Machine.execInvalid20 v s
  | .invalid40 v => Sys2Proof.Machine.execInvalid40 v s
  | .invalid80 v => Sys2Proof.Machine.execInvalid80 v s
  | .cmdExec g => Sys2Proof.Machine.execCmdExec g s
  | .cmdSecond g => Sys2Proof.Machine.execCmdSecond g s
  | .seekDone g => Sys2Proof.Machine.execSeekDone g s
  | .sectorRead g => Sys2Proof.Machine.execSectorRead g s
  | .playSector g => Sys2Proof.Machine.execPlaySector g s
  | .irqRecheck g => Sys2Proof.Machine.execIrqRecheck g s

end Sys2Proof.Machine
end

