-- ==== Sys2Proof/Machine/Fetch.lean ====
section
/-! DEFINITION. What the machine does next (45_irq_scheduler.md R283, R284; 20_memory.md R66): the least event due by the
cycle of the host's next step, or else that host step itself. Log entries 1 to 6. -/

namespace Sys2Proof.Machine

/-- What the fetch finds. -/
inductive Fetched where
  /-- nothing to run: the state after -/
  | done (s : State)
  /-- an encoded instruction, and the state it runs in -/
  | run (e : Encoded) (s : State)
  /-- an access where no port exists -/
  | fault (why : Fault)
  /-- a step outside the interface -/
  | refused (why : Refusal)

/-- The index of an event kind (45_irq_scheduler.md R281). -/
def EventKind.index : EventKind → Byte
  | .cmdExec => 0
  | .cmdSecond => 1
  | .seekDone => 2
  | .sectorRead => 3
  | .playSector => 4
  | .irqRecheck => 5

/-- The encoding of an event: its kind with the generation it carries (30_encoding.md R93). -/
def Event.encoded (e : Event) : Encoded := .event [e.kind.index] e.gen

/-- The cycle of a host step. -/
def HostStep.cycle : HostStep → Nat
  | .tick t => t
  | .access t _ => t
  | .powerOn t => t

/-- `sel = port<<2 | w<<1 | ctrl[0]`, with `ctrl[0]` as it stands before the access (30_encoding.md R80). -/
def selector (port : Nat) (write mode : Bool) : Byte :=
  BitVec.ofNat 8 (port * 4 + (if write then 2 else 0) + (if mode then 1 else 0))

/-- The encoding of a byte access: selector and data byte (30_encoding.md R80, R116; log entry 18). -/
def accessEncoded (port : Nat) (write : Option Byte) (mode : Bool) : Encoded :=
  .port [selector port write.isSome mode, write.getD 0x00]

/-- Fire an event: out of the queue, `now` at its due cycle (45_irq_scheduler.md R283). -/
def State.firing (e : Event) (s : State) : State :=
  { s with queue := { s.queue with events := s.queue.events.erase e }, now := e.due }

/-- The host's step is taken: `now` at its cycle, the step off the list (45_irq_scheduler.md R283, R284). -/
def State.taking (cycle : Nat) (rest : List HostStep) (s : State) : State := { s with now := cycle, inputs := rest }

/-- A host access in the state at its cycle: 8 bits wide at one of the four port addresses (20_memory.md R62, R65). -/
def fetchAccess (a : BusAccess) (s : State) : Fetched :=
  if a.addr < s.cfg.cdBase ∨ s.cfg.cdBase + 4 ≤ a.addr then .fault (.noSuchPort a.addr)
  else if a.bits ≠ 8 then .refused (.nonByteAccess a.bits)
  else .run (accessEncoded (a.addr - s.cfg.cdBase) a.write s.paramMode) s

/-- A host step once no event is due by its cycle: time has passed, an access, or power-on. -/
def fetchHost (h : HostStep) (s : State) : Fetched :=
  match h with
  | .tick _ => .done s
  | .access _ a => fetchAccess a s
  | .powerOn _ => .done (State.powerOn s.cfg s.now s.inputs s.backend)

/-- The next thing to run: with no host step offered, nothing; otherwise the least event due by the host step's cycle,
or, if none is due, the host step. -/
def fetch (s : State) : Fetched :=
  match s.inputs with
  | [] => .done s
  | h :: rest =>
    if h.cycle < s.now then .refused (.pastCycle h.cycle)
    else
      match s.queue.nextDue h.cycle with
      | some e => .run e.encoded (s.firing e)
      | none => fetchHost h (s.taking h.cycle rest)

/-- The state with no output pending, as each step begins (log entry 7). -/
def State.quiet (s : State) : State := { s with out := Output.silent }

/-! ### Presenting one instruction to the fetch (log entry 19) -/

/-- The state with no event due by `now`, the given events instead, and a host step at `now` offered first. -/
def State.presenting (h : HostStep) (due : List Event) (s : State) : State :=
  { s with
    queue := { s.queue with events := s.queue.events.filter (fun e => s.now < e.due) ++ due }
    inputs := h :: s.inputs }

/-- An event due now, of the given kind and generation. -/
def State.eventNow (kind : EventKind) (gen : Nat) (s : State) : Event :=
  { due := s.now, seq := s.queue.nextSeq, kind := kind, gen := gen }

/-- A command byte about to be run by a live CMD_EXEC, with as many zero parameters as the command takes at least. -/
def State.presentCommand (op : Byte) (s : State) : State :=
  let s := { s with
    phase := .executing
    curOp := op
    curParams := List.replicate (fewestParams op) 0x00
    latch := { pending := false, kind := 0 } }
  s.presenting (.tick s.now) [s.eventNow .cmdExec s.cmdGen]

/-- A port access by selector, the data byte 0; bit 0 of the selector becomes `ctrl[0]`. -/
def State.presentAccess (sel : Nat) (s : State) : State :=
  let s := { s with ctrl := if sel % 2 = 1 then s.ctrl ||| 0x01 else s.ctrl &&& 0xFE }
  let write := if sel / 2 % 2 = 1 then some 0x00 else none
  s.presenting (.access s.now { addr := s.cfg.cdBase + sel / 4 % 4, bits := 8, write := write }) []

/-- The event kind of an index. -/
def eventKindOf : Nat → Option EventKind
  | 0 => some .cmdExec
  | 1 => some .cmdSecond
  | 2 => some .seekDone
  | 3 => some .sectorRead
  | 4 => some .playSector
  | 5 => some .irqRecheck
  | _ => none

/-- An event of the given kind index due now, with generation 0. -/
def State.presentEvent (k : Nat) (s : State) : State :=
  match eventKindOf k with
  | some kind => s.presenting (.tick s.now) [s.eventNow kind 0]
  | none => s

/-- An instruction word of spec/opcode_table.json where the next step fetches it: the width names the encoding space as
in `decodeTableWord`. -/
def State.presentWord (nbits w : Nat) (s : State) : State :=
  match nbits with
  | 3 => s.presentEvent w
  | 4 => s.presentAccess w
  | 8 => s.presentCommand (BitVec.ofNat 8 w)
  | _ => s

end Sys2Proof.Machine
end

