-- ==== Sys2Proof/Machine/Step.lean ====
section
/-! DEFINITION. One step: fetch, decode, execute (20_memory.md R66: a port operation or an event body). -/

namespace Sys2Proof.Machine

/-- Decode the fetched encoding and execute the instruction. -/
def runEncoded (e : Encoded) (s : State) : Host.Outcome State Fault Refusal :=
  match decode e with
  | .ok i => exec i s
  | .error why => .refused (.undecoded why)

/-- One step of the machine: the outputs of the step before are gone, then what the fetch finds is run. -/
def step (s : State) : Host.Outcome State Fault Refusal :=
  match fetch s.quiet with
  | .done t => .next t
  | .run e t => runEncoded e t
  | .fault why => .fault why
  | .refused why => .refused why

/-- The state in which the very next step fetches and runs the instruction of a word of spec/opcode_table.json
(log entry 19). -/
def State.withFetchWord (s : State) (nbits w : Nat) : State := s.presentWord nbits w

end Sys2Proof.Machine
end

