-- ==== Sys2Proof/Safety.lean ====
section
/-! DEFINITION. The terms claims use: the invariants of the spec (10_state.md R42; 41_command_pipeline.md R148;
44_sector_pipeline.md R264; 45_irq_scheduler.md R286), what a host step inside the interface is, and what the parts of
the state without effect are (10_state.md R22, R23, R34). -/

namespace Sys2Proof.Machine

/-! ### The state invariants of R42 -/

/-- The registers and buffers hold legal values (10_state.md R24 to R38, R42 I1 to I6).
`cfgValid` is the spec's condition on a configuration (45_irq_scheduler.md R282). -/
structure RegistersLegal (s : State) : Prop where
  cfgValid : s.cfg.valid = true
  /-- I1 and the ring's cursors -/
  paramFifo : s.pfifo.wf s.cfg.paramCap = true
  /-- I1 and the ring's cursors -/
  responseFifo : s.rfifo.wf s.cfg.respCap = true
  /-- I2 -/
  dataUndrained : s.xfer.ready = true → s.xfer.index < s.xfer.size
  bufferBounds : s.xfer.index ≤ s.xfer.size ∧ s.xfer.size ≤ s.cfg.sectorBytes
  bufferCanonical : Memory.wf s.xfer.buf = true
  headerLength : s.lastHdr.length = 8
  /-- I3 -/
  queuedWhileBusy : s.queued.valid = true → s.phase ≠ .idle
  /-- I4 -/
  waitingIsPending : s.phase = .waitingIrq → s.latch.pending = true
  /-- I5 -/
  latchCode : s.latch.pending = false ↔ s.latch.kind = 0
  /-- only the four named types are ever latched (30_encoding.md R84) -/
  latchKind : s.latch.kind ∈ [0, 1, 2, 3, 5]
  /-- I6: bits 2, 3 and CHECK_ERROR of `stat_p` -/
  statReserved : s.statP &&& 0x1C = 0
  paramCount : s.curParams.length ≤ s.cfg.paramCap ∧ s.queued.params.length ≤ s.cfg.paramCap
  reportRange : s.reportCount < s.cfg.reportN
  seekTakesTime : 1 ≤ s.seek.ticks

/-- The event queue: no event is overdue (R42 I8), and the events stand in submission order, each with a sequence number
of its own below `next_seq` (10_state.md R40, 45_irq_scheduler.md R282). -/
structure QueueOrdered (s : State) : Prop where
  notOverdue : ∀ e ∈ s.queue.events, s.now ≤ e.due
  submissionOrder : s.queue.events.Pairwise (fun a b => a.seq < b.seq)
  belowNext : ∀ e ∈ s.queue.events, e.seq < s.queue.nextSeq

/-! ### The sessions: which events are live -/

/-- How many pending events have a kind and a generation. -/
def State.pendingCount (s : State) (kind : EventKind) (gen : Nat) : Nat :=
  s.queue.events.countP (fun e => e.kind == kind && e.gen == gen)

/-- Whether an event kind belongs to the command session (45_irq_scheduler.md R281). -/
def EventKind.isCommand (k : EventKind) : Bool := k == .cmdExec || k == .cmdSecond

/-- Whether an event kind belongs to the drive session (45_irq_scheduler.md R281). -/
def EventKind.isDrive (k : EventKind) : Bool := k == .seekDone || k == .sectorRead || k == .playSector

/-- The command session: exactly the event that the phase waits for is pending with the current generation, none is ahead
of its session, and a second phase belongs to Stop, Pause, Init or ReadTOC (41_command_pipeline.md R145, R147,
45_irq_scheduler.md R285, R286). -/
structure CommandSession (s : State) : Prop where
  execPending : s.pendingCount .cmdExec s.cmdGen = if s.phase = .executing then 1 else 0
  secondPending : s.pendingCount .cmdSecond s.cmdGen = if s.phase = .secondResponse then 1 else 0
  notAhead : ∀ e ∈ s.queue.events, e.kind.isCommand = true → e.gen ≤ s.cmdGen
  secondPhase : s.phase = .secondResponse → s.curOp ∈ [0x08, 0x09, 0x0A, 0x1E]

/-- The drive session: exactly one seek, sector or play event is live while the drive seeks, reads or plays, and none
otherwise (44_sector_pipeline.md R264(a), 45_irq_scheduler.md R286); between the two phases of Stop, Pause and Init the
drive is Stopping, Pausing or Resetting (43_commands.md R192 to R194). -/
structure DriveSession (s : State) : Prop where
  seekPending : s.pendingCount .seekDone s.driveGen =
    if s.drive = .seekingLogical ∨ s.drive = .seekingPhysical then 1 else 0
  readPending : s.pendingCount .sectorRead s.driveGen = if s.drive = .reading then 1 else 0
  playPending : s.pendingCount .playSector s.driveGen = if s.drive = .playing then 1 else 0
  notAhead : ∀ e ∈ s.queue.events, e.kind.isDrive = true → e.gen ≤ s.driveGen
  stopping : s.phase = .secondResponse → s.curOp = 0x08 → s.drive = .stopping
  pausing : s.phase = .secondResponse → s.curOp = 0x09 → s.drive = .pausing
  resetting : s.phase = .secondResponse → s.curOp = 0x0A → s.drive = .resetting

/-- The drive states no rule enters (10_state.md R29). -/
def DriveState.entered (d : DriveState) : Bool := d != .openingShell && d != .spinningUp

/-! ### The host -/

/-- A byte access to one of the four ports (20_memory.md R60, R62, R65). -/
def BusAccess.inWindow (c : Config) (a : BusAccess) : Prop :=
  c.cdBase ≤ a.addr ∧ a.addr < c.cdBase + 4 ∧ a.bits = 8

/-- A host step inside the interface: not in the past (45_irq_scheduler.md R284), and a byte access to a port. -/
def HostStep.legal (s : State) (h : HostStep) : Prop :=
  s.now ≤ h.cycle ∧ ∀ t a, h = .access t a → a.inWindow s.cfg

/-- A read of a port at a cycle. -/
def readPort (c : Config) (t port : Nat) : HostStep := .access t { addr := c.cdBase + port, bits := 8, write := none }

/-- A write of a port at a cycle. -/
def writePort (c : Config) (t port : Nat) (v : Byte) : HostStep :=
  .access t { addr := c.cdBase + port, bits := 8, write := some v }

/-! ### Parts of the state without effect -/

/-- A state whose inert parts are blank: `ctrl` and `irq_mask` above their used bits, and the recorded seek cycles
(10_state.md R22, R23, R34). -/
def State.withoutInert (s : State) : State :=
  { s with
    ctrl := s.ctrl &&& 0x01
    irqMask := s.irqMask &&& 0x07
    seek := { s.seek with startAt := 0, doneAt := 0 } }

/-- An outcome whose state's inert parts are blank. -/
def withoutInert : StepResult → StepResult
  | .next t => .next t.withoutInert
  | .fault why => .fault why
  | .refused why => .refused why

/-! ### The states commands leave -/

/-- After a successful single-phase command: ERROR and CHECK_ERROR cleared, the response and its interrupt, phase
WaitingIrq (41_command_pipeline.md R143, 43_commands.md R181). -/
def State.answered (bytes : List Byte) (type : IrqType) (s : State) : State :=
  { (s.statClear 0x11).respond bytes type with phase := .waitingIrq }

/-- After the first phase of a two-phase command: as `answered` with ACK, but phase SecondResponse and CMD_SECOND
scheduled (41_command_pipeline.md R143). -/
def State.firstPhase (bytes : List Byte) (delay : Nat) (s : State) : State :=
  { (s.statClear 0x11).respond bytes .ack with phase := .secondResponse }.schedule delay .cmdSecond s.cmdGen

/-- After an error response: `[stat_p | 0x11, code]` with DiskError, nothing else changed but the phase
(43_commands.md R181, R182). -/
def State.failed (code : Byte) (s : State) : State :=
  { s.respond [s.statP ||| 0x11, code] .diskError with phase := .waitingIrq }

/-- After the no-disc response: `[0x11, 0x80]` with DiskError (43_commands.md R182). -/
def State.withoutDisc (s : State) : State := { s.respond [0x11, 0x80] .diskError with phase := .waitingIrq }

/-- After the second phase of a two-phase command: `[stat_p]` with Complete, phase WaitingIrq
(41_command_pipeline.md R145). -/
def State.completed (s : State) : State := { s.respond [s.statP] .complete with phase := .waitingIrq }

/-- The backend after `n` queries. -/
def Backend.after : Nat → Backend → Backend
  | 0, b => b
  | n + 1, b => Backend.after n b.advance

/-! ### Repeated pops -/

/-- The bytes of `n` pops, first popped first, and the FIFO left (40_fifo_and_registers.md R115). -/
def Fifo.popMany (cap : Nat) : Nat → Fifo → List Byte × Fifo
  | 0, f => ([], f)
  | n + 1, f =>
    let rest := Fifo.popMany cap n (f.pop cap).2
    ((f.pop cap).1 :: rest.1, rest.2)

end Sys2Proof.Machine
end

