-- ==== Sys2Proof/WellFormed.lean ====
section
/-! DEFINITION. Which terms of `Instr` stand for an encodable instruction: the byte of an invalid command lies in the
range of its row (30_encoding.md R81, R87; 43_commands.md R215). Every other term is well formed. -/

namespace Sys2Proof

/-- Well-formedness of an instruction: each INVALID row's byte lies in that row's range of spec/opcode_table.json. -/
def Instr.wf : Instr → Bool
  | .p0r => true
  | .p0w _ => true
  | .p1r => true
  | .p1wCmd _ => true
  | .p1wParam _ => true
  | .p2r => true
  | .p2wNop _ => true
  | .p2wParam _ => true
  | .p3r => true
  | .p3wReq _ => true
  | .p3wMask _ => true
  | .sync => true
  | .getstat => true
  | .setloc => true
  | .play => true
  | .forward => true
  | .backward => true
  | .readN => true
  | .standby => true
  | .stop => true
  | .pause => true
  | .init => true
  | .mute => true
  | .demute => true
  | .setfilter => true
  | .setmode => true
  | .getparam => true
  | .getlocL => true
  | .getlocP => true
  | .setSession => true
  | .getTN => true
  | .getTD => true
  | .seekL => true
  | .seekP => true
  | .setClock => true
  | .getClock => true
  | .test => true
  | .getID => true
  | .readS => true
  | .reset => true
  | .getQ => true
  | .readTOC => true
  | .invalid1F => true
  | .invalid20 op => 0x20 ≤ op.toNat && op.toNat < 0x40
  | .invalid40 op => 0x40 ≤ op.toNat && op.toNat < 0x80
  | .invalid80 op => 0x80 ≤ op.toNat
  | .cmdExec _ => true
  | .cmdSecond _ => true
  | .seekDone _ => true
  | .sectorRead _ => true
  | .playSector _ => true
  | .irqRecheck _ => true

end Sys2Proof
end

