-- ==== Sys2Proof/Certificates/Slice0/Obligations.lean ====
section
/-! DEFINITION. The statements for the provers, by the spec's files. -/

open Sys2Proof Sys2Proof.Machine

/-! ### Encoding (30_encoding.md) -/

/-- R80, R81, R93: the decoder gives back every well-formed instruction from its encoding, with every operand. The
byte layout of a port access and of an event is the model's (log entry 18). -/
def Obligations.DecodeOfEncode : Prop :=
  ∀ i : Instr, i.wf = true → decode (encode i) = .ok i

/-- R87, R88, R93: what the decoder accepts is well formed, and a command or an event has no second encoding. That an
event is encoded as its kind's index in one byte beside its generation, and what other bytes are refused, is the model's
choice (log entry 18). -/
def Obligations.DecoderYieldsWellFormed : Prop :=
  (∀ e i, decode e = .ok i → i.wf = true) ∧
  (∀ b i, decode (.command b) = .ok i → encode i = .command b) ∧
  (∀ b g i, decode (.event b g) = .ok i → encode i = .event b g)

/-- R80, R116: the port decode is total, with the eleven meanings of the table, by `ctrl[0]` where the table says so. -/
def Obligations.PortDecodeTable : Prop :=
  ∀ (v : Byte) (m : Bool),
    decode (accessEncoded 0 none m) = .ok .p0r ∧ decode (accessEncoded 0 (some v) m) = .ok (.p0w v) ∧
    decode (accessEncoded 1 none m) = .ok .p1r ∧
    decode (accessEncoded 1 (some v) m) = .ok (if m then .p1wParam v else .p1wCmd v) ∧
    decode (accessEncoded 2 none m) = .ok .p2r ∧
    decode (accessEncoded 2 (some v) m) = .ok (if m then .p2wParam v else .p2wNop v) ∧
    decode (accessEncoded 3 none m) = .ok .p3r ∧
    decode (accessEncoded 3 (some v) m) = .ok (if m then .p3wMask v else .p3wReq v)

/-- R81, R93: words written out from the tables of the spec, in the model's byte layout (log entry 18). -/
def Obligations.SampleWordsDecode : Prop :=
  decode (.command [0b00000000]) = .ok .sync ∧ decode (.command [0b00000010]) = .ok .setloc ∧
  decode (.command [0b00001010]) = .ok .init ∧ decode (.command [0b00010101]) = .ok .seekL ∧
  decode (.command [0b00011110]) = .ok .readTOC ∧ decode (.command [0b00011111]) = .ok .invalid1F ∧
  decode (.command [0b10000010]) = .ok (.invalid80 0x82) ∧
  decode (.event [0b00000011] 7) = .ok (.sectorRead 7) ∧ decode (.event [0b00000110] 0) = .error .eventReserved ∧
  decode (.port [0b00000110, 0x19]) = .ok (.p1wCmd 0x19) ∧ decode (.port [0b00010000, 0]) = .error .portReserved

/-- R85: the packed BCD of every number 0..99 has its digits in the two halves of the byte, is valid and reads back, and
every valid byte is the BCD of its number. -/
def Obligations.BcdRoundTrip : Prop :=
  (∀ v, v < 100 → (bcd v).toNat = v / 10 * 16 + v % 10 ∧ validBcd (bcd v) = true ∧ unbcd (bcd v) = v) ∧
  (∀ b : Byte, validBcd b = true → unbcd b < 100 ∧ bcd (unbcd b) = b)

/-! ### Steps (20_memory.md R66, 45_irq_scheduler.md R283, R284) -/

/-- A step runs the decoded instruction. When the least event due by the host step's cycle decodes to an instruction, the
step is that instruction, in the state without outputs, the event out of the queue and `now` at its due cycle.
When no event is due and the host makes a byte access to a port, it is the instruction its selector and data byte decode
to, in the state without outputs at the access's cycle. That one event or one access is a step is the model's choice (log
entry 2). -/
def Obligations.StepRunsDecodedInstruction : Prop :=
  (∀ (s : State) (h : HostStep) (rest : List HostStep) (e : Event) (i : Instr),
    s.inputs = h :: rest → s.now ≤ h.cycle → s.queue.nextDue h.cycle = some e → decode e.encoded = .ok i →
    step s = exec i (s.quiet.firing e)) ∧
  (∀ (s : State) (t port : Nat) (write : Option Byte) (rest : List HostStep) (i : Instr),
    s.inputs = .access t { addr := s.cfg.cdBase + port, bits := 8, write := write } :: rest → port < 4 → s.now ≤ t →
    s.queue.nextDue t = none → decode (accessEncoded port write s.paramMode) = .ok i →
    step s = exec i (s.quiet.taking t rest))

/-- The remaining steps: nothing offered, time passing, power-on, and the accesses outside the interface. The
stutter, the refusals, the fault and power-on's place among the steps are the model's choice (log entries 3 to 6). -/
def Obligations.StepWithoutInstruction : Prop :=
  ∀ (s : State) (h : HostStep) (rest : List HostStep),
    (s.inputs = [] → step s = .next s.quiet) ∧
    (s.inputs = h :: rest → h.cycle < s.now → step s = .refused (.pastCycle h.cycle)) ∧
    (s.inputs = h :: rest → s.now ≤ h.cycle → s.queue.nextDue h.cycle = none →
      (∀ t, h = .tick t → step s = .next (s.quiet.taking t rest)) ∧
      (∀ t, h = .powerOn t → step s = .next (State.powerOn s.cfg t rest s.backend)) ∧
      (∀ t a, h = .access t a → a.addr < s.cfg.cdBase ∨ s.cfg.cdBase + 4 ≤ a.addr →
        step s = .fault (.noSuchPort a.addr)) ∧
      (∀ t a, h = .access t a → s.cfg.cdBase ≤ a.addr → a.addr < s.cfg.cdBase + 4 → a.bits ≠ 8 →
        step s = .refused (.nonByteAccess a.bits)))

/-- R283: the event fired next is due, pending, and before or equal to every other due event in `(due, seq)`; none is
fired exactly when none is due. -/
def Obligations.NextDueIsLeast : Prop :=
  ∀ (q : EventQueue) (t : Nat),
    (∀ e, q.nextDue t = some e → e ∈ q.events ∧ e.due ≤ t ∧
      ∀ x ∈ q.events, x.due ≤ t → e.due < x.due ∨ (e.due = x.due ∧ e.seq ≤ x.seq)) ∧
    (q.nextDue t = none ↔ ∀ x ∈ q.events, t < x.due)

/-- R330: what power-on leaves in every register; `now`, the host's steps and the backend are not the controller's
(log entries 6 and 15). -/
def Obligations.PowerOnValues : Prop :=
  ∀ (s : State) (t : Nat) (rest : List HostStep), s.inputs = .powerOn t :: rest → s.now ≤ t →
    s.queue.nextDue t = none → ∃ u, step s = .next u ∧
      u.cfg = s.cfg ∧ u.ctrl = 0x00 ∧ u.irqMask = s.cfg.irqMaskReset ∧
      u.pfifo = { buf := List.replicate s.cfg.paramCap 0x00, rd := 0, wr := 0, size := 0 } ∧
      u.rfifo = { buf := List.replicate s.cfg.respCap 0x00, rd := 0, wr := 0, size := 0 } ∧
      u.statP = 0x00 ∧ u.mode = 0x00 ∧ u.drive = .idle ∧ u.phase = .idle ∧ u.curOp = 0x00 ∧ u.curParams = [] ∧
      u.queued = { valid := false, op := 0x00, params := [] } ∧
      u.cur = { m := 0, s := 2, f := 0 } ∧ u.target = { m := 0, s := 2, f := 0 } ∧ u.setlocPending = false ∧
      u.seek = { dist := 0, cls := .none, ticks := s.cfg.tSeekMin, startAt := 0, doneAt := 0 } ∧
      (∀ a, u.xfer.buf.read a = 0x00) ∧ u.xfer.index = 0 ∧ u.xfer.size = 0 ∧ u.xfer.ready = false ∧
      u.lastHdr = List.replicate 8 0x00 ∧ u.filterFile = 0x00 ∧ u.filterChannel = 0x00 ∧ u.muted = false ∧
      u.reportCount = 0 ∧ u.latch = { pending := false, kind := 0 } ∧ u.cmdGen = 0 ∧ u.driveGen = 0 ∧
      u.queue = { events := [], nextSeq := 0 } ∧ u.now = t ∧ u.inputs = rest ∧ u.backend = s.backend ∧
      u.out.line = false ∧ (1 ≤ s.cfg.paramCap → u.statByte = 0x10)

/-! ### FIFOs and ports (40_fifo_and_registers.md) -/

/-- R115, on an empty FIFO of capacity `cap`: (a) `n <= cap` pushes and then `n` pops give the bytes in order and an empty
FIFO; (b) after `cap` pushes further pushes change nothing, so the next `cap` pops give the first `cap` bytes; (c) a pop
gives 0x00 and changes nothing; (d) so does a pop after `Clear`, of any FIFO. -/
def Obligations.FifoLaws : Prop :=
  ∀ (cap : Nat) (f : Fifo) (bs extra : List Byte), f.wf cap = true → f.size = 0 →
    (bs.length ≤ cap →
      ((f.pushAll cap bs).popMany cap bs.length).1 = bs ∧ ((f.pushAll cap bs).popMany cap bs.length).2.size = 0) ∧
    (bs.length = cap →
      f.pushAll cap (bs ++ extra) = f.pushAll cap bs ∧ ((f.pushAll cap (bs ++ extra)).popMany cap cap).1 = bs) ∧
    f.pop cap = (0x00, f) ∧
    (∀ g : Fifo, g.clear.pop cap = (0x00, g.clear))

/-- R111, R112, R114, R115(b)(c)(d): the ring refines the list of its live bytes: a push appends unless full, a pop takes
the oldest, an empty pop gives 0x00 and changes nothing, a clear empties; each keeps the ring's invariant. -/
def Obligations.FifoRefinesList : Prop :=
  ∀ (cap : Nat) (f : Fifo) (b : Byte), f.wf cap = true →
    (f.size < cap → (f.push cap b).wf cap = true ∧ (f.push cap b).contents cap = f.contents cap ++ [b]) ∧
    (f.size = cap → f.push cap b = f) ∧
    (∀ x xs, f.contents cap = x :: xs →
      (f.pop cap).1 = x ∧ (f.pop cap).2.contents cap = xs ∧ (f.pop cap).2.wf cap = true) ∧
    (f.contents cap = [] → f.pop cap = (0x00, f)) ∧
    f.clear.contents cap = [] ∧ f.clear.wf cap = true ∧ f.clear.buf = f.buf ∧ f.clear.pop cap = (0x00, f.clear)

/-- R118: a Port0 read returns the six flags at their places, the other two bits 0, and changes no register. -/
def Obligations.P0RReturnsStatus : Prop :=
  ∀ s : State, ∃ b : Byte, exec .p0r s = .next { s with out := { s.out with bus := some b } } ∧
    b.getLsbD 0 = s.statP.getLsbD 0 ∧ b.getLsbD 1 = s.statP.getLsbD 6 ∧ b.getLsbD 2 = s.statP.getLsbD 5 ∧
    b.getLsbD 3 = false ∧ b.getLsbD 4 = decide (s.pfifo.size < s.cfg.paramCap) ∧
    b.getLsbD 5 = decide (0 < s.rfifo.size) ∧ b.getLsbD 6 = s.xfer.ready ∧ b.getLsbD 7 = false

/-- R117, R121, R123, R124: the control and mask registers take the byte whole, P2W_NOP does nothing; request bit 7 set
shows the data only while undrained bytes remain, clear it hides them, bit 6 clears `pfifo`, the other bits do nothing. -/
def Obligations.RegisterWrites : Prop :=
  ∀ (s : State) (v : Byte),
    exec (.p0w v) s = .next { s with ctrl := v } ∧
    exec (.p3wMask v) s = .next { s with irqMask := v } ∧
    exec (.p2wNop v) s = .next s ∧
    exec (.p3wReq v) s = .next { s with
      xfer := { s.xfer with
        ready := if v.getLsbD 7 = true then decide (s.xfer.index < s.xfer.size) else false }
      pfifo := if v.getLsbD 6 = true then { s.pfifo with rd := 0, wr := 0, size := 0 } else s.pfifo }

/-- R119, R121: in parameter mode Port1 and Port2 writes append the byte to `pfifo`, or drop it when full. -/
def Obligations.ParameterPushes : Prop :=
  ∀ (s : State) (v : Byte), s.pfifo.wf s.cfg.paramCap = true → ∃ f : Fifo,
    exec (.p1wParam v) s = .next { s with pfifo := f } ∧ exec (.p2wParam v) s = .next { s with pfifo := f } ∧
    f.contents s.cfg.paramCap =
      (if s.pfifo.size < s.cfg.paramCap then s.pfifo.contents s.cfg.paramCap ++ [v] else s.pfifo.contents s.cfg.paramCap)

/-- R120: a Port1 read pops the oldest response byte; with none it returns 0x00 and changes nothing. -/
def Obligations.P1RPopsResponse : Prop :=
  ∀ s : State, s.rfifo.wf s.cfg.respCap = true →
    (∀ x xs, s.rfifo.contents s.cfg.respCap = x :: xs → ∃ f : Fifo, f.contents s.cfg.respCap = xs ∧
      exec .p1r s = .next { s with rfifo := f, out := { s.out with bus := some x } }) ∧
    (s.rfifo.contents s.cfg.respCap = [] → exec .p1r s = .next { s with out := { s.out with bus := some 0x00 } })

/-- R122: a Port2 read returns the next byte of an undrained sector, and `data_ready` falls with the last one; with no
data ready it returns 0x00 and changes nothing. -/
def Obligations.P2RReadsSectorByte : Prop :=
  ∀ s : State,
    (s.xfer.ready = false → exec .p2r s = .next { s with out := { s.out with bus := some 0x00 } }) ∧
    (s.xfer.ready = true → exec .p2r s = .next { s with
      xfer := { s.xfer with
        index := s.xfer.index + 1
        ready := if s.xfer.index + 1 = s.xfer.size then false else true }
      out := { s.out with bus := some (s.xfer.buf.read s.xfer.index) } })

/-- R125, R291, R146: a Port3 read returns the type, clears the latch, retires a waiting command and starts the queued
one; with nothing pending it changes nothing, and then the type is 0 (I5). -/
def Obligations.P3RAcknowledges : Prop :=
  ∀ s : State,
    (s.latch.pending = false →
      exec .p3r s = .next { s with out := { s.out with bus := some (s.latch.kind.setWidth 8) } }) ∧
    (s.latch.pending = false → s.latch.kind = 0 →
      exec .p3r s = .next { s with out := { s.out with bus := some 0x00 } }) ∧
    (s.latch.pending = true → s.phase ≠ .waitingIrq → exec .p3r s = .next { s with
      latch := { pending := false, kind := 0 }
      out := { s.out with bus := some (s.latch.kind.setWidth 8) } }) ∧
    (s.latch.pending = true → s.phase = .waitingIrq → s.queued.valid = false → exec .p3r s = .next { s with
      latch := { pending := false, kind := 0 }
      phase := .idle
      out := { s.out with bus := some (s.latch.kind.setWidth 8) } }) ∧
    (s.latch.pending = true → s.phase = .waitingIrq → s.queued.valid = true → exec .p3r s = .next ({ s with
      latch := { pending := false, kind := 0 }
      queued := { s.queued with valid := false }
      out := { s.out with bus := some (s.latch.kind.setWidth 8) } }.startCommand s.queued.op s.queued.params))

/-! ### The command pipeline (41_command_pipeline.md) -/

/-- R140, R142: a command write takes the bytes of `pfifo` as parameters and empties it; then it starts the command,
queues it, or drops it. -/
def Obligations.CommandWriteIssues : Prop :=
  ∀ (s : State) (op : Byte), exec (.p1wCmd op) s = .next
    (if s.phase = .idle then
      ({ s with pfifo := { s.pfifo with rd := 0, wr := 0, size := 0 } }.startCommand op
        (s.pfifo.contents s.cfg.paramCap))
    else if s.queued.valid = true then { s with pfifo := { s.pfifo with rd := 0, wr := 0, size := 0 } }
    else { s with
      pfifo := { s.pfifo with rd := 0, wr := 0, size := 0 }
      queued := { valid := true, op := op, params := s.pfifo.contents s.cfg.paramCap } })

/-- R282, R141: `Schedule` adds one event due at `now + delta` with the next sequence number; starting a command latches
it, sets phase Executing, advances `cmd_gen` and schedules CMD_EXEC after `T_CMD[op]`, by default 0x800, with the new
generation. -/
def Obligations.ScheduleAndStartCommand : Prop :=
  (∀ (s : State) (delta gen : Nat) (kind : EventKind),
    s.schedule delta kind gen = { s with queue := {
      events := s.queue.events ++ [{ due := s.now + delta, seq := s.queue.nextSeq, kind := kind, gen := gen }],
      nextSeq := s.queue.nextSeq + 1 } }) ∧
  (∀ (s : State) (op : Byte) (params : List Byte), s.startCommand op params = { s with
    curOp := op
    curParams := params
    phase := .executing
    cmdGen := s.cmdGen + 1
    queue := {
      events := s.queue.events ++
        [{ due := s.now + s.cfg.tCmd op, seq := s.queue.nextSeq, kind := .cmdExec, gen := s.cmdGen + 1 }]
      nextSeq := s.queue.nextSeq + 1 } }) ∧
  (∀ op : Byte, Config.standard.tCmd op = 0x800)

/-- R143, R180: a live CMD_EXEC with the latch clear runs the command the decoder reads from the latched opcode, and that
ends in a next state with an interrupt latched, waiting for it or for the second phase. -/
def Obligations.CmdExecRunsLatchedCommand : Prop :=
  ∀ (s : State) (i : Instr), s.phase = .executing → s.latch.pending = false →
    decode (.command [s.curOp]) = .ok i → exec (.cmdExec s.cmdGen) s = exec i s ∧
      ∃ t, exec i s = .next t ∧ t.latch.pending = true ∧ (t.phase = .waitingIrq ∨ t.phase = .secondResponse)

/-- R285: an event whose guard fails does nothing at all. -/
def Obligations.StaleEventsDoNothing : Prop :=
  ∀ (s : State) (g : Nat),
    (g ≠ s.cmdGen ∨ s.phase ≠ .executing → exec (.cmdExec g) s = .next s) ∧
    (g ≠ s.cmdGen ∨ s.phase ≠ .secondResponse → exec (.cmdSecond g) s = .next s) ∧
    (g ≠ s.driveGen ∨ ¬ (s.drive = .seekingLogical ∨ s.drive = .seekingPhysical) → exec (.seekDone g) s = .next s) ∧
    (g ≠ s.driveGen ∨ s.drive ≠ .reading → exec (.sectorRead g) s = .next s) ∧
    (g ≠ s.driveGen ∨ s.drive ≠ .playing → exec (.playSector g) s = .next s)

/-- R287: a live event that always raises an interrupt only schedules itself again, `T_DEFER` later with its own
generation, while an interrupt is pending; SEEK_DONE does so only under `SEEK_COMPLETE_IRQ`. -/
def Obligations.LiveEventsDefer : Prop :=
  ∀ s : State, s.latch.pending = true →
    (s.phase = .executing → exec (.cmdExec s.cmdGen) s = .next (s.schedule s.cfg.tDefer .cmdExec s.cmdGen)) ∧
    (s.phase = .secondResponse → exec (.cmdSecond s.cmdGen) s = .next (s.schedule s.cfg.tDefer .cmdSecond s.cmdGen)) ∧
    (s.drive = .reading → exec (.sectorRead s.driveGen) s = .next (s.schedule s.cfg.tDefer .sectorRead s.driveGen)) ∧
    (s.drive = .seekingLogical ∨ s.drive = .seekingPhysical → s.cfg.seekCompleteIrq = true →
      exec (.seekDone s.driveGen) s = .next (s.schedule s.cfg.tDefer .seekDone s.driveGen))

/-- R145, R192, R193, R194, R214: the second phases: the final status transition, then Complete with the new `stat_p`.
The fault for any other opcode, which no run reaches, is the model's choice (log entry 16). -/
def Obligations.SecondPhasesComplete : Prop :=
  ∀ s : State, s.phase = .secondResponse → s.latch.pending = false →
    (s.curOp = 0x08 → exec (.cmdSecond s.cmdGen) s =
      .next { s with statP := s.statP &&& ~~~(0xE2 : Byte), drive := .idle }.completed) ∧
    (s.curOp = 0x09 → exec (.cmdSecond s.cmdGen) s =
      .next { s with statP := s.statP &&& ~~~(0xE0 : Byte), drive := .idle }.completed) ∧
    (s.curOp = 0x0A → exec (.cmdSecond s.cmdGen) s = .next { s.queried with
      statP := if s.backend.present then s.statP &&& ~~~(0xE0 : Byte) ||| 0x02 else s.statP &&& ~~~(0xE2 : Byte)
      drive := .idle }.completed) ∧
    (s.curOp = 0x1E → exec (.cmdSecond s.cmdGen) s = .next { s with statP := s.statP ||| 0x02 }.completed) ∧
    (s.curOp ∉ [0x08, 0x09, 0x0A, 0x1E] → exec (.cmdSecond s.cmdGen) s = .fault (.noSecondPhase s.curOp))

/-- R143, R302: from an idle controller with nothing pending, a command byte written at cycle `t`, whatever the byte and
the parameters, is answered at `t + T_CMD[op]` with an interrupt latched, two steps later
(the step's size is the model's choice, log entry 2). -/
def Obligations.EveryCommandIsAnswered : Prop :=
  ∀ (s : State) (t u : Nat) (op : Byte) (rest : List HostStep),
    s.inputs = writePort s.cfg t 1 op :: .tick u :: rest → s.now ≤ t → t + s.cfg.tCmd op ≤ u →
    s.paramMode = false → s.phase = .idle → s.latch.pending = false → s.queue.events = [] →
    ∃ v, Host.Core.run core 2 s = .next v ∧ v.now = t + s.cfg.tCmd op ∧ v.curOp = op ∧
      v.curParams = s.pfifo.contents s.cfg.paramCap ∧ v.latch.pending = true ∧
      v.out.line = s.irqEnabled v.latch.kind ∧
      (v.phase = .waitingIrq ∨ (v.phase = .secondResponse ∧ op ∈ [0x08, 0x09, 0x0A, 0x1E] ∧ v.latch.kind = 3))

/-! ### Positions and seeks (42_seek.md) -/

/-- R161, R162, R163: the absolute frame of a position by its formula, `lba` 150 below it, `msf_of_abs` and `msf_of_lba`
their inverses both ways over their ranges, and one sector forward one absolute frame more, except from 99:59:74, which
wraps to 00:00:00. -/
def Obligations.PositionArithmetic : Prop :=
  (∀ p : Msf, absf p = (p.m.val * 60 + p.s.val) * 75 + p.f.val ∧ lba p + 150 = (absf p : Int) ∧ absf p < 450000 ∧
    msfOfAbs (absf p) = p ∧ msfOfLba (lba p) = p) ∧
  (∀ n, n < 450000 → absf (msfOfAbs n) = n) ∧
  (∀ l : Int, -150 ≤ l → l ≤ 449849 → msfOfLba l = msfOfAbs (l + 150).toNat ∧ lba (msfOfLba l) = l) ∧
  (∀ p : Msf, absf (advance p) = if absf p = 449999 then 0 else absf p + 1)

/-- R170: (a) the duration from `a` to `b` is that from `b` to `a`; (b) it never falls as the distance grows, within a
band for any parameters, over all distances for the default ones; (c) two values of `lba`; (d) with the default
parameters it never passes `SEEK_CAP`, nor 877,360 below the Long band. Besides, the distance of two positions is 0
exactly when they are one. -/
def Obligations.SeekDurationLaws : Prop :=
  (∀ (c : Config) (a b : Msf), seekTicks c (lba b - lba a).natAbs = seekTicks c (lba a - lba b).natAbs) ∧
  (∀ (c : Config) (d e : Nat), d ≤ e → seekClass d = seekClass e → seekTicks c d ≤ seekTicks c e) ∧
  (∀ d e, d ≤ e → seekTicks Config.standard d ≤ seekTicks Config.standard e) ∧
  lba { m := 0, s := 2, f := 0 } = 0 ∧ lba { m := 0, s := 2, f := 1 } = 1 ∧
  (∀ d, seekTicks Config.standard d ≤ Config.standard.seekCap) ∧
  (∀ d, d ≤ 1000 → seekTicks Config.standard d ≤ 877360) ∧
  (∀ a b : Msf, seekDistance a b = 0 ↔ a = b)

/-- R164, R165: the distance of two positions, and the bands of the seek table, class and duration, with the values at
their edges for the default parameters. -/
def Obligations.SeekBands : Prop :=
  (∀ a b : Msf, seekDistance a b = (lba b - lba a).natAbs) ∧
  (∀ (c : Config) (d : Nat),
    (d = 0 → seekClass d = .none ∧ seekTicks c d = c.tSeekMin) ∧
    (1 ≤ d → d ≤ 3 → seekClass d = .forward ∧ seekTicks c d = c.tSeekMin) ∧
    (4 ≤ d → d ≤ 16 → seekClass d = .trackJump ∧ seekTicks c d = c.seekTjBase + d * c.seekTjPer) ∧
    (17 ≤ d → d ≤ 1000 → seekClass d = .medium ∧ seekTicks c d = c.seekMedBase + d * c.seekMedPer) ∧
    (1001 ≤ d → seekClass d = .long ∧ seekTicks c d = min (c.seekLongBase + d * c.seekLongPer) c.seekCap)) ∧
  (∀ x ∈ [(0, 33868), (3, 33868), (4, 155472), (16, 215472), (17, 680760), (1000, 877360), (1001, 3486980),
      (270950, 30481880), (270951, 30481920)], seekTicks Config.standard x.1 = x.2)

/-- R168: a live SEEK_DONE puts the position at the target, clears SEEKING and idles the drive; under
`SEEK_COMPLETE_IRQ` it also answers Complete. -/
def Obligations.SeekCompletes : Prop :=
  ∀ s : State, s.drive = .seekingLogical ∨ s.drive = .seekingPhysical →
    (s.cfg.seekCompleteIrq = false → exec (.seekDone s.driveGen) s =
      .next { s with cur := s.target, statP := s.statP &&& ~~~(0x40 : Byte), drive := .idle }) ∧
    (s.cfg.seekCompleteIrq = true → s.latch.pending = false → exec (.seekDone s.driveGen) s =
      .next ({ s with cur := s.target, statP := s.statP &&& ~~~(0x40 : Byte), drive := .idle }.respond
        [s.statP &&& ~~~(0x40 : Byte)] .complete))

/-! ### Commands (43_commands.md) -/

/-- R183: how many parameters each command takes, by opcode. -/
def Obligations.ParameterCounts : Prop :=
  ∀ (op : Byte) (n : Nat), op.toNat ≤ 0x1E → (countOk op n = true ↔
    if op = 0x02 then n = 3
    else if op = 0x03 then n = 0 ∨ n = 1
    else if op = 0x0D ∨ op = 0x1D then n = 2
    else if op = 0x0E ∨ op = 0x12 ∨ op = 0x14 then n = 1
    else if op = 0x19 then 1 ≤ n
    else if op = 0x17 ∨ op = 0x18 then True
    else n = 0)

/-- R180, R181, R182, R183: a command with a wrong parameter count answers `[stat_p | 0x11, 0x20]` with DiskError; with
the right count, one that needs a disc answers `[0x11, 0x80]` with DiskError when none is present. -/
def Obligations.CommandChecksAnswerErrors : Prop :=
  ∀ (s : State) (op : Byte) (i : Instr), op.toNat ≤ 0x1E → decode (.command [op]) = .ok i →
    (countOk op s.curParams.length = false → exec i s = .next (s.failed 0x20)) ∧
    (countOk op s.curParams.length = true → s.backend.present = false →
      op ∈ [0x03, 0x06, 0x07, 0x11, 0x13, 0x14, 0x15, 0x16, 0x1A, 0x1B, 0x1E] → exec i s = .next s.queried.withoutDisc)

/-- R215: every byte 0x1F..0xFF answers `[stat_p | 0x11, 0x40]` with DiskError, whatever the parameters. That a
constructor carrying a byte outside its row, which is never decoded, answers the same is the model's choice (log entry
25). -/
def Obligations.InvalidCommandsAnswerError : Prop :=
  ∀ (s : State) (op : Byte),
    exec .invalid1F s = .next (s.failed 0x40) ∧ exec (.invalid20 op) s = .next (s.failed 0x40) ∧
    exec (.invalid40 op) s = .next (s.failed 0x40) ∧ exec (.invalid80 op) s = .next (s.failed 0x40) ∧
    (0x1F ≤ op.toNat → s.phase = .executing → s.latch.pending = false → s.curOp = op →
      exec (.cmdExec s.cmdGen) s = .next (s.failed 0x40))

/-- R184, R185, R188, R189, R202, R207, R208, R213: the commands whose only effect is to answer `[stat_p]` with ACK;
SetSession knows session 1 only. -/
def Obligations.StatusOnlyCommands : Prop :=
  ∀ s : State,
    (∀ i ∈ [Instr.sync, .getstat, .forward, .backward],
      exec i s = .next (if s.curParams = [] then s.answered [s.statP] .ack else s.failed 0x20)) ∧
    (∀ i ∈ [Instr.setClock, .getClock], exec i s = .next (s.answered [s.statP] .ack)) ∧
    exec .getQ s = .next (if s.curParams.length = 2 then s.answered [s.statP] .ack else s.failed 0x20) ∧
    exec .setSession s = .next (if s.curParams = [0x01] then s.answered [s.statP] .ack
      else if s.curParams.length = 1 then s.failed 0x10 else s.failed 0x20)

/-- R186, R166: Setloc with three good BCD bytes sets target and descriptor from the position of now, whatever the disc;
a byte that is not BCD, a second of 60 or more, a frame of 75 or more, or another count is an error. -/
def Obligations.SetlocSetsTarget : Prop :=
  ∀ (s : State) (p : Msf) (bm bs bf : Byte),
    (s.curParams = [bcd p.m.val, bcd p.s.val, bcd p.f.val] → exec .setloc s = .next ({ s with
      target := p
      setlocPending := true
      seek := { s.seek with
        dist := (lba p - lba s.cur).natAbs
        cls := seekClass (lba p - lba s.cur).natAbs
        ticks := seekTicks s.cfg (lba p - lba s.cur).natAbs } }.answered [s.statP] .ack)) ∧
    (s.curParams = [bm, bs, bf] →
      ¬ (validBcd bm = true ∧ validBcd bs = true ∧ validBcd bf = true ∧ unbcd bs < 60 ∧ unbcd bf < 75) →
      exec .setloc s = .next (s.failed 0x10)) ∧
    (s.curParams.length ≠ 3 → exec .setloc s = .next (s.failed 0x20))

/-- R187, R265, R169: Play without a track, or with track 0x00: the snap, a new drive session, the first sector one
period later. -/
def Obligations.PlayFromPosition : Prop :=
  ∀ s : State, s.curParams = [] ∨ s.curParams = [0x00] → s.backend.present = true →
    exec .play s = .next (({ s.queried with
      cur := if s.setlocPending = true ∨ s.drive = DriveState.seekingLogical ∨ s.drive = DriveState.seekingPhysical then s.target else s.cur
      setlocPending := false
      driveGen := s.driveGen + 1
      drive := .playing
      reportCount := 0
      statP := s.statP &&& ~~~(0x60 : Byte) ||| 0x82 }.schedule s.cfg.sectorPeriod1x .playSector
        (s.driveGen + 1)).answered [s.statP &&& ~~~(0x60 : Byte) ||| 0x82] .ack)

/-- R187: Play of a track starts at the track's start; a byte that is not BCD, or a track outside the disc's, is an error
that starts nothing. -/
def Obligations.PlayOfTrack : Prop :=
  ∀ (s : State) (b : Byte), s.curParams = [b] → b ≠ 0x00 → s.backend.present = true →
    (validBcd b = false → exec .play s = .next (s.queried.failed 0x10)) ∧
    (validBcd b = true → ∀ first last, s.queried.backend.tracks = (first, last) →
      (unbcd b < first ∨ last < unbcd b → exec .play s = .next (s.queried.queried.failed 0x10)) ∧
      (first ≤ unbcd b → unbcd b ≤ last → exec .play s = .next (({ s.queried.queried.queried with
        cur := s.queried.queried.backend.start (unbcd b)
        setlocPending := false
        driveGen := s.driveGen + 1
        drive := .playing
        reportCount := 0
        statP := s.statP &&& ~~~(0x60 : Byte) ||| 0x82 }.schedule s.cfg.sectorPeriod1x .playSector
          (s.driveGen + 1)).answered [s.statP &&& ~~~(0x60 : Byte) ||| 0x82] .ack)))

/-- R190, R211, R261, R169: ReadN and ReadS: the snap, a new drive session, the first sector one sector period later;
the transfer buffer is not touched. -/
def Obligations.ReadCommandsStartReading : Prop :=
  ∀ s : State, s.curParams = [] → s.backend.present = true → ∀ i ∈ [Instr.readN, .readS],
    exec i s = .next (({ s.queried with
      cur := if s.setlocPending = true ∨ s.drive = DriveState.seekingLogical ∨ s.drive = DriveState.seekingPhysical then s.target else s.cur
      setlocPending := false
      driveGen := s.driveGen + 1
      drive := .reading
      statP := s.statP &&& ~~~(0xC0 : Byte) ||| 0x22 }.schedule
        (if s.mode.getLsbD 7 = true then s.cfg.sectorPeriod2x else s.cfg.sectorPeriod1x) .sectorRead
        (s.driveGen + 1)).answered [s.statP &&& ~~~(0xC0 : Byte) ||| 0x22] .ack)

/-- R205, R206, R167: SeekL and SeekP: a new drive session towards the pending target, or in place without one, with the
duration of the SetLoc. -/
def Obligations.SeekCommandsStartSeek : Prop :=
  ∀ s : State, s.curParams = [] → s.backend.present = true →
    ∀ x ∈ [(Instr.seekL, DriveState.seekingLogical), (.seekP, .seekingPhysical)],
      ∀ d : SeekDesc, d = (if s.setlocPending = true then s.seek
        else { s.seek with dist := 0, cls := .none, ticks := s.cfg.tSeekMin }) →
      exec x.1 s = .next (({ s.queried with
        target := if s.setlocPending = true then s.target else s.cur
        setlocPending := false
        driveGen := s.driveGen + 1
        drive := x.2
        statP := s.statP &&& ~~~(0xA0 : Byte) ||| 0x42
        seek := { d with startAt := s.now, doneAt := s.now + d.ticks } }.schedule d.ticks .seekDone
          (s.driveGen + 1)).answered [s.statP &&& ~~~(0xA0 : Byte) ||| 0x42] .ack)

/-- R191, R195, R196, R197, R198: the commands that write one register and answer `[stat_p]` with ACK. -/
def Obligations.RegisterCommands : Prop :=
  ∀ s : State,
    (s.curParams = [] → s.backend.present = true → exec .standby s =
      .next ({ s.queried with statP := s.statP ||| 0x02 }.answered [s.statP ||| 0x02] .ack)) ∧
    (s.curParams = [] → exec .mute s = .next ({ s with muted := true }.answered [s.statP] .ack)) ∧
    (s.curParams = [] → exec .demute s = .next ({ s with muted := false }.answered [s.statP] .ack)) ∧
    (∀ f c, s.curParams = [f, c] → exec .setfilter s =
      .next ({ s with filterFile := f, filterChannel := c }.answered [s.statP] .ack)) ∧
    (∀ m, s.curParams = [m] → exec .setmode s = .next ({ s with mode := m }.answered [s.statP] .ack))

/-- R199, R200, R209, R210: the commands that return data of the controller's own. -/
def Obligations.DataCommands : Prop :=
  ∀ s : State,
    (s.curParams = [] → exec .getparam s =
      .next (s.answered [s.statP, s.mode, 0x00, s.filterFile, s.filterChannel] .ack)) ∧
    (s.curParams = [] → exec .getlocL s = .next (s.answered s.lastHdr .ack)) ∧
    (∀ rest, s.curParams = 0x20 :: rest → exec .test s = .next (s.answered s.cfg.test20Bytes .ack)) ∧
    (∀ b rest, s.curParams = b :: rest → b ≠ 0x20 → exec .test s = .next (s.failed 0x10)) ∧
    (s.curParams = [] → s.backend.present = true → exec .getID s = .next
      (s.queried.answered [s.statP, 0x02, 0x00, 0x00, 0x00, 0x53, 0x43, 0x45, 0x58] .complete))

/-- R203, R204: the table of contents: the track range, a track's start, the lead-out for track 0; a bad track is an
error. -/
def Obligations.TrackTableCommands : Prop :=
  ∀ s : State, s.backend.present = true → ∀ first last, s.queried.backend.tracks = (first, last) →
    (s.curParams = [] → exec .getTN s =
      .next (s.queried.queried.answered [s.statP, bcd first, bcd last] .ack)) ∧
    (∀ b, s.curParams = [b] → validBcd b = false → exec .getTD s = .next (s.queried.failed 0x10)) ∧
    (∀ b, s.curParams = [b] → validBcd b = true → last < unbcd b ∨ (unbcd b ≠ 0 ∧ unbcd b < first) →
      exec .getTD s = .next (s.queried.queried.failed 0x10)) ∧
    (∀ b, s.curParams = [b] → validBcd b = true → unbcd b ≤ last → unbcd b = 0 ∨ first ≤ unbcd b →
      exec .getTD s = .next (s.queried.queried.queried.answered
        [s.statP, bcd (s.queried.queried.backend.start (unbcd b)).m.val,
          bcd (s.queried.queried.backend.start (unbcd b)).s.val] .ack))

/-- R201: GetlocP answers the track of the position, index 1, the time from the track's start, and the position. -/
def Obligations.GetlocPReportsPosition : Prop :=
  ∀ s : State, s.curParams = [] → s.backend.present = true →
    ∀ t u, trackOf s.cur s.queried = (t, u) → ∀ rel, rel = msfOfAbs (absf s.cur - absf (u.backend.start t)) →
      exec .getlocP s = .next (u.queried.answered
        [bcd t, 0x01, bcd rel.m.val, bcd rel.s.val, bcd rel.f.val, bcd s.cur.m.val, bcd s.cur.s.val, bcd s.cur.f.val] .ack)

/-- R192, R193, R194, R214: the first phases: ACK with the `stat_p` of before, the second phase after its delay; Stop and
Pause end the drive session, Init resets the drive and its data (R331), field by field, ReadTOC does neither. -/
def Obligations.TwoPhaseCommandsAcknowledge : Prop :=
  ∀ s : State, s.curParams = [] →
    exec .stop s = .next ({ s with driveGen := s.driveGen + 1, drive := .stopping }.firstPhase [s.statP] s.cfg.t2Stop) ∧
    exec .pause s = .next ({ s with driveGen := s.driveGen + 1, drive := .pausing }.firstPhase [s.statP] s.cfg.t2Pause) ∧
    exec .init s = .next ({ s with
      mode := 0x00, filterFile := 0x00, filterChannel := 0x00, muted := false, reportCount := 0
      cur := { m := 0, s := 2, f := 0 }, target := { m := 0, s := 2, f := 0 }, setlocPending := false
      seek := { s.seek with dist := 0, cls := .none, ticks := s.cfg.tSeekMin }
      xfer := { s.xfer with index := 0, size := 0, ready := false }
      lastHdr := List.replicate 8 0x00
      driveGen := s.driveGen + 1
      drive := .resetting }.firstPhase [s.statP] s.cfg.t2Init) ∧
    (s.backend.present = true → exec .readTOC s = .next (s.queried.firstPhase [s.statP] s.cfg.t2ReadToc))

/-- R212, R331: Reset leaves the drive and its data at their reset values, `stat_p` zero, the drive Idle, and the command
pipeline, the ports, the latch and the event queue to its own answer. -/
def Obligations.ResetCommandResetsDrive : Prop :=
  ∀ s : State, s.curParams = [] → exec .reset s = .next ({ s with
    mode := 0x00, filterFile := 0x00, filterChannel := 0x00, muted := false, reportCount := 0
    cur := { m := 0, s := 2, f := 0 }, target := { m := 0, s := 2, f := 0 }, setlocPending := false
    seek := { s.seek with dist := 0, cls := .none, ticks := s.cfg.tSeekMin }
    xfer := { s.xfer with index := 0, size := 0, ready := false }
    lastHdr := List.replicate 8 0x00
    driveGen := s.driveGen + 1
    statP := 0x00
    drive := .idle }.answered [0x00] .ack)

/-! ### The data path (44_sector_pipeline.md) -/

/-- R262, R263, R260: a live SECTOR_READ with the latch clear delivers the sector at the position: the buffer holds it
byte for byte, undrained, DataReady is latched, the position moves on, the next event is one period away; a failing
backend or an absent disc stops the read with ERROR and DiskError. Of an image of another length than `SECTOR_BYTES`, that
the buffer holds it cut, or filled with 0x00, is the model's choice (log entry 11); so are header bytes 0x00 past the end
of a sector of fewer than 20 bytes (log entry 28). -/
def Obligations.SectorDelivery : Prop :=
  ∀ s : State, s.drive = .reading → s.latch.pending = false →
    (∀ image, s.backend.present = true → s.queried.backend.read s.cur = some image → ∃ (x : Xfer) (hdr : List Byte),
      exec (.sectorRead s.driveGen) s = .next ({ ({ s.queried.queried with xfer := x, lastHdr := hdr }.respond
        [s.statP] .dataReady) with cur := advance s.cur }.schedule
          (if s.mode.getLsbD 7 = true then s.cfg.sectorPeriod2x else s.cfg.sectorPeriod1x) .sectorRead s.driveGen) ∧
      x.index = 0 ∧ x.size = s.cfg.sectorBytes ∧ x.ready = true ∧
      (∀ k, x.buf.read k = if k < s.cfg.sectorBytes then image.getD k 0x00 else 0x00) ∧
      hdr.length = 8 ∧ (∀ k, k < 8 → hdr.getD k 0x00 = x.buf.read (12 + k))) ∧
    (∀ u, (s.backend.present = false ∧ u = s.queried) ∨
        (s.backend.present = true ∧ s.queried.backend.read s.cur = none ∧ u = s.queried.queried) →
      exec (.sectorRead s.driveGen) s = .next ({ u with
        statP := s.statP &&& ~~~(0xA0 : Byte) ||| 0x01, drive := .error, driveGen := s.driveGen + 1 }.respond
          [s.statP &&& ~~~(0xA0 : Byte) ||| 0x01, 0x80] .diskError))

/-- R266, R268: a play sector that raises no interrupt is played whatever the latch: the audio is emitted unless muted,
the position and the report count move on, the next event is one 1x period away. -/
def Obligations.PlaySectorWithoutInterrupt : Prop :=
  ∀ (s : State) (a : Pcm), s.drive = .playing → s.backend.present = true → s.queried.backend.readAudio s.cur = some a →
    ∀ u, (s.mode.getLsbD 1 = false ∧ u = s.queried.queried) ∨
        (s.mode.getLsbD 1 = true ∧ endOfTrack s.cur s.queried.queried = (false, u)) →
    (s.mode.getLsbD 2 = false ∨ (s.reportCount + 1) % s.cfg.reportN ≠ 0) →
    exec (.playSector s.driveGen) s = .next ({ u with
      out := { s.out with audio := if s.muted then s.out.audio else some a }
      cur := advance s.cur
      reportCount := (s.reportCount + 1) % s.cfg.reportN }.schedule s.cfg.sectorPeriod1x .playSector s.driveGen)

/-- R266, R267, R270: with the latch clear, the last sector of a track under AUTOPAUSE ends play with Complete, and a
sector that a report is due after answers DataReady with the report of its position; with the latch pending either is
deferred whole. -/
def Obligations.PlaySectorWithInterrupt : Prop :=
  ∀ (s : State) (a : Pcm), s.drive = .playing → s.backend.present = true → s.queried.backend.readAudio s.cur = some a →
    ∀ v, v = { s with
      out := { s.out with audio := if s.muted then s.out.audio else some a }
      cur := advance s.cur
      reportCount := (s.reportCount + 1) % s.cfg.reportN } →
    (s.mode.getLsbD 1 = true → ∀ u, endOfTrack s.cur s.queried.queried = (true, u) →
      (s.latch.pending = false → exec (.playSector s.driveGen) s = .next ({ v with
        backend := u.backend, statP := s.statP &&& ~~~(0x80 : Byte), drive := .idle }.respond
          [s.statP &&& ~~~(0x80 : Byte)] .complete)) ∧
      (s.latch.pending = true → exec (.playSector s.driveGen) s =
        .next (u.schedule s.cfg.tDefer .playSector s.driveGen))) ∧
    (s.mode.getLsbD 2 = true → (s.reportCount + 1) % s.cfg.reportN = 0 →
      ∀ u, (s.mode.getLsbD 1 = false ∧ u = s.queried.queried) ∨
        (s.mode.getLsbD 1 = true ∧ endOfTrack s.cur s.queried.queried = (false, u)) →
      (s.latch.pending = false → ∀ t w, trackOf s.cur { v with backend := u.backend } = (t, w) →
        exec (.playSector s.driveGen) s = .next ((w.respond
          [s.statP, bcd t, 0x01, bcd s.cur.m.val, bcd s.cur.s.val, bcd s.cur.f.val, 0x00, 0x00] .dataReady).schedule
            s.cfg.sectorPeriod1x .playSector s.driveGen)) ∧
      (s.latch.pending = true → exec (.playSector s.driveGen) s =
        .next (u.schedule s.cfg.tDefer .playSector s.driveGen)))

/-- R266, R263: a failing backend, or an absent disc, stops play with ERROR and DiskError, or defers while an interrupt
is pending. -/
def Obligations.PlayFailure : Prop :=
  ∀ s : State, s.drive = .playing →
    ∀ u, (s.backend.present = false ∧ u = s.queried) ∨
      (s.backend.present = true ∧ s.queried.backend.readAudio s.cur = none ∧ u = s.queried.queried) →
    (s.latch.pending = false → exec (.playSector s.driveGen) s = .next ({ u with
      statP := s.statP &&& ~~~(0xA0 : Byte) ||| 0x01, drive := .error, driveGen := s.driveGen + 1 }.respond
        [s.statP &&& ~~~(0xA0 : Byte) ||| 0x01, 0x80] .diskError)) ∧
    (s.latch.pending = true → exec (.playSector s.driveGen) s =
      .next (u.schedule s.cfg.tDefer .playSector s.driveGen))

/-- R269: the track of a position is the last track that starts at or before it, the first track if none does; asking
changes nothing but the backend's draws. The answer for track `t` is that of its own query, in ascending order (the
model's choice, log entry 10).
R267: a position ends its track exactly when the sector after it is where the next track starts, or the lead-out (track
0) of the last track; asking that changes nothing but the backend's draws. That the range is asked again after the track
is R267's; which draw answers it is the model's choice (log entry 10). -/
def Obligations.TrackOfIsLastStarted : Prop :=
  (∀ (s : State) (p : Msf) (first last : Nat), s.backend.tracks = (first, last) →
    ∀ start : Nat → Nat, (∀ t, start t = absf ((s.backend.after (t - first + 1)).start t)) →
    ∃ t, trackOf p s = (t, { s with backend := s.backend.after (last + 2 - first) }) ∧ first ≤ t ∧ t ≤ last ∧
      (∀ k, t < k → k ≤ last → absf p < start k) ∧
      (start t ≤ absf p ∨ (t = first ∧ ∀ k, first ≤ k → k ≤ last → absf p < start k))) ∧
  (∀ (s w : State) (p : Msf) (t first last : Nat), trackOf p s = (t, w) → w.backend.tracks = (first, last) →
    (t < last → ((endOfTrack p s).1 = true ↔ absf (advance p) = absf (w.queried.backend.start (t + 1)))) ∧
    (last ≤ t → ((endOfTrack p s).1 = true ↔ absf (advance p) = absf (w.queried.backend.start 0))) ∧
    (endOfTrack p s).2 = { s with backend := w.backend.after 2 })

/-! ### Interrupts (45_irq_scheduler.md) -/

/-- R288, R290: raising an interrupt latches its code, pulses the line exactly when the mask enables the code, schedules
one re-check after the type's delay, and does nothing else. -/
def Obligations.GenerateIrqEffect : Prop :=
  ∀ s : State, ∀ x ∈ [(IrqType.dataReady, (1 : BitVec 3), s.cfg.tRecheckDataReady),
      (.complete, 2, s.cfg.tRecheckComplete), (.ack, 3, s.cfg.tRecheckAck), (.diskError, 5, s.cfg.tRecheckDiskError)],
    s.generateIrq x.1 = { s with
      latch := { pending := true, kind := x.2.1 }
      out := { s.out with line := s.out.line || x.2.1.setWidth 8 &&& s.irqMask != 0 }
      queue := {
        events := s.queue.events ++
          [{ due := s.now + x.2.2, seq := s.queue.nextSeq, kind := .irqRecheck, gen := 0 }]
        nextSeq := s.queue.nextSeq + 1 } }

/-- R144: a response replaces whatever the host had not read: `rfifo` holds exactly its bytes, in order. -/
def Obligations.RespondReplacesResponse : Prop :=
  ∀ (s : State) (bytes : List Byte) (type : IrqType), s.rfifo.wf s.cfg.respCap = true → bytes.length ≤ s.cfg.respCap →
    ∃ f : Fifo, f.wf s.cfg.respCap = true ∧ f.contents s.cfg.respCap = bytes ∧
      s.respond bytes type = { s with rfifo := f }.generateIrq type

/-- R289: a re-check pulses the line when the latch is pending and enabled, and changes no state. -/
def Obligations.RecheckOnlySignals : Prop :=
  ∀ (s : State) (g : Nat), exec (.irqRecheck g) s = .next { s with out := { s.out with
    line := s.out.line || (s.latch.pending && s.latch.kind.setWidth 8 &&& s.irqMask != 0) } }

/-- R292, R303: while an interrupt is pending no step puts another in its place: the latch stays as it is until a step
clears it, and only a Port3 read or power-on does. -/
def Obligations.LatchHeldUntilAcknowledged : Prop :=
  ∀ s t : State, step s = .next t → s.latch.pending = true →
    t.latch = s.latch ∨ (t.latch = { pending := false, kind := 0 } ∧
      ∃ h rest, s.inputs = h :: rest ∧ t.inputs = rest ∧
        ((∃ c, h = .powerOn c) ∨ ∃ c, h = readPort s.cfg c 3))

/-! ### Invariants -/

/-- R42 (I1 to I6): every step keeps the registers and buffers legal, in the canonical form. -/
def Obligations.StepKeepsRegistersLegal : Prop :=
  ∀ s t : State, RegistersLegal s → step s = .next t → RegistersLegal t

/-- R42 (I8), R283: every step keeps the event queue in submission order with no event overdue, and time never runs
backwards. -/
def Obligations.StepKeepsQueueOrdered : Prop :=
  ∀ s t : State, QueueOrdered s → step s = .next t → QueueOrdered t ∧ s.now ≤ t.now

/-- R147, R148, R285, R286: every step keeps exactly the command event pending that the phase waits for. -/
def Obligations.StepKeepsCommandSession : Prop :=
  ∀ s t : State, CommandSession s → step s = .next t → CommandSession t

/-- R264(a), R286: every step keeps exactly one live drive event while the drive seeks, reads or plays, and none
otherwise. -/
def Obligations.StepKeepsDriveSession : Prop :=
  ∀ s t : State, DriveSession s → step s = .next t → DriveSession t

/-- The four invariants hold right after reset. -/
def Obligations.ResetMeetsInvariants : Prop :=
  RegistersLegal State.reset ∧ QueueOrdered State.reset ∧ CommandSession State.reset ∧ DriveSession State.reset

/-- R126, R302: in a command session, a step never stops the machine unless the host leaves the interface. -/
def Obligations.StepAlwaysCompletes : Prop :=
  ∀ s : State, CommandSession s → (∀ h rest, s.inputs = h :: rest → h.legal s) → ∃ t, step s = .next t

/-- R7, R29: no step writes a parameter, and none enters OpeningShell or SpinningUp. -/
def Obligations.StepKeepsParameters : Prop :=
  ∀ s t : State, step s = .next t → t.cfg = s.cfg ∧ (s.drive.entered = true → t.drive.entered = true)

/-- R22, R23, R34: `ctrl[7:1]`, `irq_mask[7:3]` and the recorded seek cycles have no effect: two states that differ in
nothing else take steps that differ in nothing else. -/
def Obligations.InertBitsHaveNoEffect : Prop :=
  ∀ s t : State, s.withoutInert = t.withoutInert → withoutInert (step s) = withoutInert (step t)
end

