-- ==== Sys2Proof/Laws/State.lean ====
section
/-! SUPPORT. Every field of State after each of the named updates, true by rfl: what the update writes, and that it
leaves every other field alone. Later proofs cite these and unfold no record update. -/

namespace Sys2Proof.Machine

variable (s : State)

@[simp] theorem State.statSet_cfg (m : Byte) : (s.statSet m).cfg = s.cfg := rfl
@[simp] theorem State.statSet_ctrl (m : Byte) : (s.statSet m).ctrl = s.ctrl := rfl
@[simp] theorem State.statSet_irqMask (m : Byte) : (s.statSet m).irqMask = s.irqMask := rfl
@[simp] theorem State.statSet_pfifo (m : Byte) : (s.statSet m).pfifo = s.pfifo := rfl
@[simp] theorem State.statSet_rfifo (m : Byte) : (s.statSet m).rfifo = s.rfifo := rfl
@[simp] theorem State.statSet_statP (m : Byte) : (s.statSet m).statP = s.statP ||| m := rfl
@[simp] theorem State.statSet_mode (m : Byte) : (s.statSet m).mode = s.mode := rfl
@[simp] theorem State.statSet_drive (m : Byte) : (s.statSet m).drive = s.drive := rfl
@[simp] theorem State.statSet_phase (m : Byte) : (s.statSet m).phase = s.phase := rfl
@[simp] theorem State.statSet_curOp (m : Byte) : (s.statSet m).curOp = s.curOp := rfl
@[simp] theorem State.statSet_curParams (m : Byte) : (s.statSet m).curParams = s.curParams := rfl
@[simp] theorem State.statSet_queued (m : Byte) : (s.statSet m).queued = s.queued := rfl
@[simp] theorem State.statSet_cur (m : Byte) : (s.statSet m).cur = s.cur := rfl
@[simp] theorem State.statSet_target (m : Byte) : (s.statSet m).target = s.target := rfl
@[simp] theorem State.statSet_setlocPending (m : Byte) : (s.statSet m).setlocPending = s.setlocPending := rfl
@[simp] theorem State.statSet_seek (m : Byte) : (s.statSet m).seek = s.seek := rfl
@[simp] theorem State.statSet_xfer (m : Byte) : (s.statSet m).xfer = s.xfer := rfl
@[simp] theorem State.statSet_lastHdr (m : Byte) : (s.statSet m).lastHdr = s.lastHdr := rfl
@[simp] theorem State.statSet_filterFile (m : Byte) : (s.statSet m).filterFile = s.filterFile := rfl
@[simp] theorem State.statSet_filterChannel (m : Byte) : (s.statSet m).filterChannel = s.filterChannel := rfl
@[simp] theorem State.statSet_muted (m : Byte) : (s.statSet m).muted = s.muted := rfl
@[simp] theorem State.statSet_reportCount (m : Byte) : (s.statSet m).reportCount = s.reportCount := rfl
@[simp] theorem State.statSet_latch (m : Byte) : (s.statSet m).latch = s.latch := rfl
@[simp] theorem State.statSet_cmdGen (m : Byte) : (s.statSet m).cmdGen = s.cmdGen := rfl
@[simp] theorem State.statSet_driveGen (m : Byte) : (s.statSet m).driveGen = s.driveGen := rfl
@[simp] theorem State.statSet_queue (m : Byte) : (s.statSet m).queue = s.queue := rfl
@[simp] theorem State.statSet_now (m : Byte) : (s.statSet m).now = s.now := rfl
@[simp] theorem State.statSet_inputs (m : Byte) : (s.statSet m).inputs = s.inputs := rfl
@[simp] theorem State.statSet_backend (m : Byte) : (s.statSet m).backend = s.backend := rfl
@[simp] theorem State.statSet_out (m : Byte) : (s.statSet m).out = s.out := rfl

@[simp] theorem State.statClear_cfg (m : Byte) : (s.statClear m).cfg = s.cfg := rfl
@[simp] theorem State.statClear_ctrl (m : Byte) : (s.statClear m).ctrl = s.ctrl := rfl
@[simp] theorem State.statClear_irqMask (m : Byte) : (s.statClear m).irqMask = s.irqMask := rfl
@[simp] theorem State.statClear_pfifo (m : Byte) : (s.statClear m).pfifo = s.pfifo := rfl
@[simp] theorem State.statClear_rfifo (m : Byte) : (s.statClear m).rfifo = s.rfifo := rfl
@[simp] theorem State.statClear_statP (m : Byte) : (s.statClear m).statP = s.statP &&& ~~~m := rfl
@[simp] theorem State.statClear_mode (m : Byte) : (s.statClear m).mode = s.mode := rfl
@[simp] theorem State.statClear_drive (m : Byte) : (s.statClear m).drive = s.drive := rfl
@[simp] theorem State.statClear_phase (m : Byte) : (s.statClear m).phase = s.phase := rfl
@[simp] theorem State.statClear_curOp (m : Byte) : (s.statClear m).curOp = s.curOp := rfl
@[simp] theorem State.statClear_curParams (m : Byte) : (s.statClear m).curParams = s.curParams := rfl
@[simp] theorem State.statClear_queued (m : Byte) : (s.statClear m).queued = s.queued := rfl
@[simp] theorem State.statClear_cur (m : Byte) : (s.statClear m).cur = s.cur := rfl
@[simp] theorem State.statClear_target (m : Byte) : (s.statClear m).target = s.target := rfl
@[simp] theorem State.statClear_setlocPending (m : Byte) : (s.statClear m).setlocPending = s.setlocPending := rfl
@[simp] theorem State.statClear_seek (m : Byte) : (s.statClear m).seek = s.seek := rfl
@[simp] theorem State.statClear_xfer (m : Byte) : (s.statClear m).xfer = s.xfer := rfl
@[simp] theorem State.statClear_lastHdr (m : Byte) : (s.statClear m).lastHdr = s.lastHdr := rfl
@[simp] theorem State.statClear_filterFile (m : Byte) : (s.statClear m).filterFile = s.filterFile := rfl
@[simp] theorem State.statClear_filterChannel (m : Byte) : (s.statClear m).filterChannel = s.filterChannel := rfl
@[simp] theorem State.statClear_muted (m : Byte) : (s.statClear m).muted = s.muted := rfl
@[simp] theorem State.statClear_reportCount (m : Byte) : (s.statClear m).reportCount = s.reportCount := rfl
@[simp] theorem State.statClear_latch (m : Byte) : (s.statClear m).latch = s.latch := rfl
@[simp] theorem State.statClear_cmdGen (m : Byte) : (s.statClear m).cmdGen = s.cmdGen := rfl
@[simp] theorem State.statClear_driveGen (m : Byte) : (s.statClear m).driveGen = s.driveGen := rfl
@[simp] theorem State.statClear_queue (m : Byte) : (s.statClear m).queue = s.queue := rfl
@[simp] theorem State.statClear_now (m : Byte) : (s.statClear m).now = s.now := rfl
@[simp] theorem State.statClear_inputs (m : Byte) : (s.statClear m).inputs = s.inputs := rfl
@[simp] theorem State.statClear_backend (m : Byte) : (s.statClear m).backend = s.backend := rfl
@[simp] theorem State.statClear_out (m : Byte) : (s.statClear m).out = s.out := rfl

@[simp] theorem State.schedule_cfg (d : Nat) (k : EventKind) (g : Nat) : (s.schedule d k g).cfg = s.cfg := rfl
@[simp] theorem State.schedule_ctrl (d : Nat) (k : EventKind) (g : Nat) : (s.schedule d k g).ctrl = s.ctrl := rfl
@[simp] theorem State.schedule_irqMask (d : Nat) (k : EventKind) (g : Nat) : (s.schedule d k g).irqMask = s.irqMask := rfl
@[simp] theorem State.schedule_pfifo (d : Nat) (k : EventKind) (g : Nat) : (s.schedule d k g).pfifo = s.pfifo := rfl
@[simp] theorem State.schedule_rfifo (d : Nat) (k : EventKind) (g : Nat) : (s.schedule d k g).rfifo = s.rfifo := rfl
@[simp] theorem State.schedule_statP (d : Nat) (k : EventKind) (g : Nat) : (s.schedule d k g).statP = s.statP := rfl
@[simp] theorem State.schedule_mode (d : Nat) (k : EventKind) (g : Nat) : (s.schedule d k g).mode = s.mode := rfl
@[simp] theorem State.schedule_drive (d : Nat) (k : EventKind) (g : Nat) : (s.schedule d k g).drive = s.drive := rfl
@[simp] theorem State.schedule_phase (d : Nat) (k : EventKind) (g : Nat) : (s.schedule d k g).phase = s.phase := rfl
@[simp] theorem State.schedule_curOp (d : Nat) (k : EventKind) (g : Nat) : (s.schedule d k g).curOp = s.curOp := rfl
@[simp] theorem State.schedule_curParams (d : Nat) (k : EventKind) (g : Nat) : (s.schedule d k g).curParams = s.curParams := rfl
@[simp] theorem State.schedule_queued (d : Nat) (k : EventKind) (g : Nat) : (s.schedule d k g).queued = s.queued := rfl
@[simp] theorem State.schedule_cur (d : Nat) (k : EventKind) (g : Nat) : (s.schedule d k g).cur = s.cur := rfl
@[simp] theorem State.schedule_target (d : Nat) (k : EventKind) (g : Nat) : (s.schedule d k g).target = s.target := rfl
@[simp] theorem State.schedule_setlocPending (d : Nat) (k : EventKind) (g : Nat) : (s.schedule d k g).setlocPending = s.setlocPending := rfl
@[simp] theorem State.schedule_seek (d : Nat) (k : EventKind) (g : Nat) : (s.schedule d k g).seek = s.seek := rfl
@[simp] theorem State.schedule_xfer (d : Nat) (k : EventKind) (g : Nat) : (s.schedule d k g).xfer = s.xfer := rfl
@[simp] theorem State.schedule_lastHdr (d : Nat) (k : EventKind) (g : Nat) : (s.schedule d k g).lastHdr = s.lastHdr := rfl
@[simp] theorem State.schedule_filterFile (d : Nat) (k : EventKind) (g : Nat) : (s.schedule d k g).filterFile = s.filterFile := rfl
@[simp] theorem State.schedule_filterChannel (d : Nat) (k : EventKind) (g : Nat) : (s.schedule d k g).filterChannel = s.filterChannel := rfl
@[simp] theorem State.schedule_muted (d : Nat) (k : EventKind) (g : Nat) : (s.schedule d k g).muted = s.muted := rfl
@[simp] theorem State.schedule_reportCount (d : Nat) (k : EventKind) (g : Nat) : (s.schedule d k g).reportCount = s.reportCount := rfl
@[simp] theorem State.schedule_latch (d : Nat) (k : EventKind) (g : Nat) : (s.schedule d k g).latch = s.latch := rfl
@[simp] theorem State.schedule_cmdGen (d : Nat) (k : EventKind) (g : Nat) : (s.schedule d k g).cmdGen = s.cmdGen := rfl
@[simp] theorem State.schedule_driveGen (d : Nat) (k : EventKind) (g : Nat) : (s.schedule d k g).driveGen = s.driveGen := rfl
@[simp] theorem State.schedule_queue (d : Nat) (k : EventKind) (g : Nat) : (s.schedule d k g).queue = {
      events := s.queue.events ++ [{ due := s.now + d, seq := s.queue.nextSeq, kind := k, gen := g }]
      nextSeq := s.queue.nextSeq + 1 } := rfl
@[simp] theorem State.schedule_now (d : Nat) (k : EventKind) (g : Nat) : (s.schedule d k g).now = s.now := rfl
@[simp] theorem State.schedule_inputs (d : Nat) (k : EventKind) (g : Nat) : (s.schedule d k g).inputs = s.inputs := rfl
@[simp] theorem State.schedule_backend (d : Nat) (k : EventKind) (g : Nat) : (s.schedule d k g).backend = s.backend := rfl
@[simp] theorem State.schedule_out (d : Nat) (k : EventKind) (g : Nat) : (s.schedule d k g).out = s.out := rfl

@[simp] theorem State.queried_cfg : s.queried.cfg = s.cfg := rfl
@[simp] theorem State.queried_ctrl : s.queried.ctrl = s.ctrl := rfl
@[simp] theorem State.queried_irqMask : s.queried.irqMask = s.irqMask := rfl
@[simp] theorem State.queried_pfifo : s.queried.pfifo = s.pfifo := rfl
@[simp] theorem State.queried_rfifo : s.queried.rfifo = s.rfifo := rfl
@[simp] theorem State.queried_statP : s.queried.statP = s.statP := rfl
@[simp] theorem State.queried_mode : s.queried.mode = s.mode := rfl
@[simp] theorem State.queried_drive : s.queried.drive = s.drive := rfl
@[simp] theorem State.queried_phase : s.queried.phase = s.phase := rfl
@[simp] theorem State.queried_curOp : s.queried.curOp = s.curOp := rfl
@[simp] theorem State.queried_curParams : s.queried.curParams = s.curParams := rfl
@[simp] theorem State.queried_queued : s.queried.queued = s.queued := rfl
@[simp] theorem State.queried_cur : s.queried.cur = s.cur := rfl
@[simp] theorem State.queried_target : s.queried.target = s.target := rfl
@[simp] theorem State.queried_setlocPending : s.queried.setlocPending = s.setlocPending := rfl
@[simp] theorem State.queried_seek : s.queried.seek = s.seek := rfl
@[simp] theorem State.queried_xfer : s.queried.xfer = s.xfer := rfl
@[simp] theorem State.queried_lastHdr : s.queried.lastHdr = s.lastHdr := rfl
@[simp] theorem State.queried_filterFile : s.queried.filterFile = s.filterFile := rfl
@[simp] theorem State.queried_filterChannel : s.queried.filterChannel = s.filterChannel := rfl
@[simp] theorem State.queried_muted : s.queried.muted = s.muted := rfl
@[simp] theorem State.queried_reportCount : s.queried.reportCount = s.reportCount := rfl
@[simp] theorem State.queried_latch : s.queried.latch = s.latch := rfl
@[simp] theorem State.queried_cmdGen : s.queried.cmdGen = s.cmdGen := rfl
@[simp] theorem State.queried_driveGen : s.queried.driveGen = s.driveGen := rfl
@[simp] theorem State.queried_queue : s.queried.queue = s.queue := rfl
@[simp] theorem State.queried_now : s.queried.now = s.now := rfl
@[simp] theorem State.queried_inputs : s.queried.inputs = s.inputs := rfl
@[simp] theorem State.queried_backend : s.queried.backend = s.backend.advance := rfl
@[simp] theorem State.queried_out : s.queried.out = s.out := rfl

@[simp] theorem State.setLatch_cfg (c : BitVec 3) : (s.setLatch c).cfg = s.cfg := rfl
@[simp] theorem State.setLatch_ctrl (c : BitVec 3) : (s.setLatch c).ctrl = s.ctrl := rfl
@[simp] theorem State.setLatch_irqMask (c : BitVec 3) : (s.setLatch c).irqMask = s.irqMask := rfl
@[simp] theorem State.setLatch_pfifo (c : BitVec 3) : (s.setLatch c).pfifo = s.pfifo := rfl
@[simp] theorem State.setLatch_rfifo (c : BitVec 3) : (s.setLatch c).rfifo = s.rfifo := rfl
@[simp] theorem State.setLatch_statP (c : BitVec 3) : (s.setLatch c).statP = s.statP := rfl
@[simp] theorem State.setLatch_mode (c : BitVec 3) : (s.setLatch c).mode = s.mode := rfl
@[simp] theorem State.setLatch_drive (c : BitVec 3) : (s.setLatch c).drive = s.drive := rfl
@[simp] theorem State.setLatch_phase (c : BitVec 3) : (s.setLatch c).phase = s.phase := rfl
@[simp] theorem State.setLatch_curOp (c : BitVec 3) : (s.setLatch c).curOp = s.curOp := rfl
@[simp] theorem State.setLatch_curParams (c : BitVec 3) : (s.setLatch c).curParams = s.curParams := rfl
@[simp] theorem State.setLatch_queued (c : BitVec 3) : (s.setLatch c).queued = s.queued := rfl
@[simp] theorem State.setLatch_cur (c : BitVec 3) : (s.setLatch c).cur = s.cur := rfl
@[simp] theorem State.setLatch_target (c : BitVec 3) : (s.setLatch c).target = s.target := rfl
@[simp] theorem State.setLatch_setlocPending (c : BitVec 3) : (s.setLatch c).setlocPending = s.setlocPending := rfl
@[simp] theorem State.setLatch_seek (c : BitVec 3) : (s.setLatch c).seek = s.seek := rfl
@[simp] theorem State.setLatch_xfer (c : BitVec 3) : (s.setLatch c).xfer = s.xfer := rfl
@[simp] theorem State.setLatch_lastHdr (c : BitVec 3) : (s.setLatch c).lastHdr = s.lastHdr := rfl
@[simp] theorem State.setLatch_filterFile (c : BitVec 3) : (s.setLatch c).filterFile = s.filterFile := rfl
@[simp] theorem State.setLatch_filterChannel (c : BitVec 3) : (s.setLatch c).filterChannel = s.filterChannel := rfl
@[simp] theorem State.setLatch_muted (c : BitVec 3) : (s.setLatch c).muted = s.muted := rfl
@[simp] theorem State.setLatch_reportCount (c : BitVec 3) : (s.setLatch c).reportCount = s.reportCount := rfl
@[simp] theorem State.setLatch_latch (c : BitVec 3) : (s.setLatch c).latch = { pending := true, kind := c } := rfl
@[simp] theorem State.setLatch_cmdGen (c : BitVec 3) : (s.setLatch c).cmdGen = s.cmdGen := rfl
@[simp] theorem State.setLatch_driveGen (c : BitVec 3) : (s.setLatch c).driveGen = s.driveGen := rfl
@[simp] theorem State.setLatch_queue (c : BitVec 3) : (s.setLatch c).queue = s.queue := rfl
@[simp] theorem State.setLatch_now (c : BitVec 3) : (s.setLatch c).now = s.now := rfl
@[simp] theorem State.setLatch_inputs (c : BitVec 3) : (s.setLatch c).inputs = s.inputs := rfl
@[simp] theorem State.setLatch_backend (c : BitVec 3) : (s.setLatch c).backend = s.backend := rfl
@[simp] theorem State.setLatch_out (c : BitVec 3) : (s.setLatch c).out = s.out := rfl

@[simp] theorem State.assertLine_cfg : s.assertLine.cfg = s.cfg := rfl
@[simp] theorem State.assertLine_ctrl : s.assertLine.ctrl = s.ctrl := rfl
@[simp] theorem State.assertLine_irqMask : s.assertLine.irqMask = s.irqMask := rfl
@[simp] theorem State.assertLine_pfifo : s.assertLine.pfifo = s.pfifo := rfl
@[simp] theorem State.assertLine_rfifo : s.assertLine.rfifo = s.rfifo := rfl
@[simp] theorem State.assertLine_statP : s.assertLine.statP = s.statP := rfl
@[simp] theorem State.assertLine_mode : s.assertLine.mode = s.mode := rfl
@[simp] theorem State.assertLine_drive : s.assertLine.drive = s.drive := rfl
@[simp] theorem State.assertLine_phase : s.assertLine.phase = s.phase := rfl
@[simp] theorem State.assertLine_curOp : s.assertLine.curOp = s.curOp := rfl
@[simp] theorem State.assertLine_curParams : s.assertLine.curParams = s.curParams := rfl
@[simp] theorem State.assertLine_queued : s.assertLine.queued = s.queued := rfl
@[simp] theorem State.assertLine_cur : s.assertLine.cur = s.cur := rfl
@[simp] theorem State.assertLine_target : s.assertLine.target = s.target := rfl
@[simp] theorem State.assertLine_setlocPending : s.assertLine.setlocPending = s.setlocPending := rfl
@[simp] theorem State.assertLine_seek : s.assertLine.seek = s.seek := rfl
@[simp] theorem State.assertLine_xfer : s.assertLine.xfer = s.xfer := rfl
@[simp] theorem State.assertLine_lastHdr : s.assertLine.lastHdr = s.lastHdr := rfl
@[simp] theorem State.assertLine_filterFile : s.assertLine.filterFile = s.filterFile := rfl
@[simp] theorem State.assertLine_filterChannel : s.assertLine.filterChannel = s.filterChannel := rfl
@[simp] theorem State.assertLine_muted : s.assertLine.muted = s.muted := rfl
@[simp] theorem State.assertLine_reportCount : s.assertLine.reportCount = s.reportCount := rfl
@[simp] theorem State.assertLine_latch : s.assertLine.latch = s.latch := rfl
@[simp] theorem State.assertLine_cmdGen : s.assertLine.cmdGen = s.cmdGen := rfl
@[simp] theorem State.assertLine_driveGen : s.assertLine.driveGen = s.driveGen := rfl
@[simp] theorem State.assertLine_queue : s.assertLine.queue = s.queue := rfl
@[simp] theorem State.assertLine_now : s.assertLine.now = s.now := rfl
@[simp] theorem State.assertLine_inputs : s.assertLine.inputs = s.inputs := rfl
@[simp] theorem State.assertLine_backend : s.assertLine.backend = s.backend := rfl
@[simp] theorem State.assertLine_out : s.assertLine.out = { s.out with line := true } := rfl

@[simp] theorem State.setResponse_cfg (bs : List Byte) : (s.setResponse bs).cfg = s.cfg := rfl
@[simp] theorem State.setResponse_ctrl (bs : List Byte) : (s.setResponse bs).ctrl = s.ctrl := rfl
@[simp] theorem State.setResponse_irqMask (bs : List Byte) : (s.setResponse bs).irqMask = s.irqMask := rfl
@[simp] theorem State.setResponse_pfifo (bs : List Byte) : (s.setResponse bs).pfifo = s.pfifo := rfl
@[simp] theorem State.setResponse_rfifo (bs : List Byte) : (s.setResponse bs).rfifo = s.rfifo.clear.pushAll s.cfg.respCap bs := rfl
@[simp] theorem State.setResponse_statP (bs : List Byte) : (s.setResponse bs).statP = s.statP := rfl
@[simp] theorem State.setResponse_mode (bs : List Byte) : (s.setResponse bs).mode = s.mode := rfl
@[simp] theorem State.setResponse_drive (bs : List Byte) : (s.setResponse bs).drive = s.drive := rfl
@[simp] theorem State.setResponse_phase (bs : List Byte) : (s.setResponse bs).phase = s.phase := rfl
@[simp] theorem State.setResponse_curOp (bs : List Byte) : (s.setResponse bs).curOp = s.curOp := rfl
@[simp] theorem State.setResponse_curParams (bs : List Byte) : (s.setResponse bs).curParams = s.curParams := rfl
@[simp] theorem State.setResponse_queued (bs : List Byte) : (s.setResponse bs).queued = s.queued := rfl
@[simp] theorem State.setResponse_cur (bs : List Byte) : (s.setResponse bs).cur = s.cur := rfl
@[simp] theorem State.setResponse_target (bs : List Byte) : (s.setResponse bs).target = s.target := rfl
@[simp] theorem State.setResponse_setlocPending (bs : List Byte) : (s.setResponse bs).setlocPending = s.setlocPending := rfl
@[simp] theorem State.setResponse_seek (bs : List Byte) : (s.setResponse bs).seek = s.seek := rfl
@[simp] theorem State.setResponse_xfer (bs : List Byte) : (s.setResponse bs).xfer = s.xfer := rfl
@[simp] theorem State.setResponse_lastHdr (bs : List Byte) : (s.setResponse bs).lastHdr = s.lastHdr := rfl
@[simp] theorem State.setResponse_filterFile (bs : List Byte) : (s.setResponse bs).filterFile = s.filterFile := rfl
@[simp] theorem State.setResponse_filterChannel (bs : List Byte) : (s.setResponse bs).filterChannel = s.filterChannel := rfl
@[simp] theorem State.setResponse_muted (bs : List Byte) : (s.setResponse bs).muted = s.muted := rfl
@[simp] theorem State.setResponse_reportCount (bs : List Byte) : (s.setResponse bs).reportCount = s.reportCount := rfl
@[simp] theorem State.setResponse_latch (bs : List Byte) : (s.setResponse bs).latch = s.latch := rfl
@[simp] theorem State.setResponse_cmdGen (bs : List Byte) : (s.setResponse bs).cmdGen = s.cmdGen := rfl
@[simp] theorem State.setResponse_driveGen (bs : List Byte) : (s.setResponse bs).driveGen = s.driveGen := rfl
@[simp] theorem State.setResponse_queue (bs : List Byte) : (s.setResponse bs).queue = s.queue := rfl
@[simp] theorem State.setResponse_now (bs : List Byte) : (s.setResponse bs).now = s.now := rfl
@[simp] theorem State.setResponse_inputs (bs : List Byte) : (s.setResponse bs).inputs = s.inputs := rfl
@[simp] theorem State.setResponse_backend (bs : List Byte) : (s.setResponse bs).backend = s.backend := rfl
@[simp] theorem State.setResponse_out (bs : List Byte) : (s.setResponse bs).out = s.out := rfl

@[simp] theorem State.startCommand_cfg (op : Byte) (ps : List Byte) : (s.startCommand op ps).cfg = s.cfg := rfl
@[simp] theorem State.startCommand_ctrl (op : Byte) (ps : List Byte) : (s.startCommand op ps).ctrl = s.ctrl := rfl
@[simp] theorem State.startCommand_irqMask (op : Byte) (ps : List Byte) : (s.startCommand op ps).irqMask = s.irqMask := rfl
@[simp] theorem State.startCommand_pfifo (op : Byte) (ps : List Byte) : (s.startCommand op ps).pfifo = s.pfifo := rfl
@[simp] theorem State.startCommand_rfifo (op : Byte) (ps : List Byte) : (s.startCommand op ps).rfifo = s.rfifo := rfl
@[simp] theorem State.startCommand_statP (op : Byte) (ps : List Byte) : (s.startCommand op ps).statP = s.statP := rfl
@[simp] theorem State.startCommand_mode (op : Byte) (ps : List Byte) : (s.startCommand op ps).mode = s.mode := rfl
@[simp] theorem State.startCommand_drive (op : Byte) (ps : List Byte) : (s.startCommand op ps).drive = s.drive := rfl
@[simp] theorem State.startCommand_phase (op : Byte) (ps : List Byte) : (s.startCommand op ps).phase = .executing := rfl
@[simp] theorem State.startCommand_curOp (op : Byte) (ps : List Byte) : (s.startCommand op ps).curOp = op := rfl
@[simp] theorem State.startCommand_curParams (op : Byte) (ps : List Byte) : (s.startCommand op ps).curParams = ps := rfl
@[simp] theorem State.startCommand_queued (op : Byte) (ps : List Byte) : (s.startCommand op ps).queued = s.queued := rfl
@[simp] theorem State.startCommand_cur (op : Byte) (ps : List Byte) : (s.startCommand op ps).cur = s.cur := rfl
@[simp] theorem State.startCommand_target (op : Byte) (ps : List Byte) : (s.startCommand op ps).target = s.target := rfl
@[simp] theorem State.startCommand_setlocPending (op : Byte) (ps : List Byte) : (s.startCommand op ps).setlocPending = s.setlocPending := rfl
@[simp] theorem State.startCommand_seek (op : Byte) (ps : List Byte) : (s.startCommand op ps).seek = s.seek := rfl
@[simp] theorem State.startCommand_xfer (op : Byte) (ps : List Byte) : (s.startCommand op ps).xfer = s.xfer := rfl
@[simp] theorem State.startCommand_lastHdr (op : Byte) (ps : List Byte) : (s.startCommand op ps).lastHdr = s.lastHdr := rfl
@[simp] theorem State.startCommand_filterFile (op : Byte) (ps : List Byte) : (s.startCommand op ps).filterFile = s.filterFile := rfl
@[simp] theorem State.startCommand_filterChannel (op : Byte) (ps : List Byte) : (s.startCommand op ps).filterChannel = s.filterChannel := rfl
@[simp] theorem State.startCommand_muted (op : Byte) (ps : List Byte) : (s.startCommand op ps).muted = s.muted := rfl
@[simp] theorem State.startCommand_reportCount (op : Byte) (ps : List Byte) : (s.startCommand op ps).reportCount = s.reportCount := rfl
@[simp] theorem State.startCommand_latch (op : Byte) (ps : List Byte) : (s.startCommand op ps).latch = s.latch := rfl
@[simp] theorem State.startCommand_cmdGen (op : Byte) (ps : List Byte) : (s.startCommand op ps).cmdGen = s.cmdGen + 1 := rfl
@[simp] theorem State.startCommand_driveGen (op : Byte) (ps : List Byte) : (s.startCommand op ps).driveGen = s.driveGen := rfl
@[simp] theorem State.startCommand_queue (op : Byte) (ps : List Byte) : (s.startCommand op ps).queue = {
      events := s.queue.events ++ [{ due := s.now + s.cfg.tCmd op, seq := s.queue.nextSeq, kind := .cmdExec, gen := s.cmdGen + 1 }]
      nextSeq := s.queue.nextSeq + 1 } := rfl
@[simp] theorem State.startCommand_now (op : Byte) (ps : List Byte) : (s.startCommand op ps).now = s.now := rfl
@[simp] theorem State.startCommand_inputs (op : Byte) (ps : List Byte) : (s.startCommand op ps).inputs = s.inputs := rfl
@[simp] theorem State.startCommand_backend (op : Byte) (ps : List Byte) : (s.startCommand op ps).backend = s.backend := rfl
@[simp] theorem State.startCommand_out (op : Byte) (ps : List Byte) : (s.startCommand op ps).out = s.out := rfl

@[simp] theorem State.returning_cfg (b : Byte) : (s.returning b).cfg = s.cfg := rfl
@[simp] theorem State.returning_ctrl (b : Byte) : (s.returning b).ctrl = s.ctrl := rfl
@[simp] theorem State.returning_irqMask (b : Byte) : (s.returning b).irqMask = s.irqMask := rfl
@[simp] theorem State.returning_pfifo (b : Byte) : (s.returning b).pfifo = s.pfifo := rfl
@[simp] theorem State.returning_rfifo (b : Byte) : (s.returning b).rfifo = s.rfifo := rfl
@[simp] theorem State.returning_statP (b : Byte) : (s.returning b).statP = s.statP := rfl
@[simp] theorem State.returning_mode (b : Byte) : (s.returning b).mode = s.mode := rfl
@[simp] theorem State.returning_drive (b : Byte) : (s.returning b).drive = s.drive := rfl
@[simp] theorem State.returning_phase (b : Byte) : (s.returning b).phase = s.phase := rfl
@[simp] theorem State.returning_curOp (b : Byte) : (s.returning b).curOp = s.curOp := rfl
@[simp] theorem State.returning_curParams (b : Byte) : (s.returning b).curParams = s.curParams := rfl
@[simp] theorem State.returning_queued (b : Byte) : (s.returning b).queued = s.queued := rfl
@[simp] theorem State.returning_cur (b : Byte) : (s.returning b).cur = s.cur := rfl
@[simp] theorem State.returning_target (b : Byte) : (s.returning b).target = s.target := rfl
@[simp] theorem State.returning_setlocPending (b : Byte) : (s.returning b).setlocPending = s.setlocPending := rfl
@[simp] theorem State.returning_seek (b : Byte) : (s.returning b).seek = s.seek := rfl
@[simp] theorem State.returning_xfer (b : Byte) : (s.returning b).xfer = s.xfer := rfl
@[simp] theorem State.returning_lastHdr (b : Byte) : (s.returning b).lastHdr = s.lastHdr := rfl
@[simp] theorem State.returning_filterFile (b : Byte) : (s.returning b).filterFile = s.filterFile := rfl
@[simp] theorem State.returning_filterChannel (b : Byte) : (s.returning b).filterChannel = s.filterChannel := rfl
@[simp] theorem State.returning_muted (b : Byte) : (s.returning b).muted = s.muted := rfl
@[simp] theorem State.returning_reportCount (b : Byte) : (s.returning b).reportCount = s.reportCount := rfl
@[simp] theorem State.returning_latch (b : Byte) : (s.returning b).latch = s.latch := rfl
@[simp] theorem State.returning_cmdGen (b : Byte) : (s.returning b).cmdGen = s.cmdGen := rfl
@[simp] theorem State.returning_driveGen (b : Byte) : (s.returning b).driveGen = s.driveGen := rfl
@[simp] theorem State.returning_queue (b : Byte) : (s.returning b).queue = s.queue := rfl
@[simp] theorem State.returning_now (b : Byte) : (s.returning b).now = s.now := rfl
@[simp] theorem State.returning_inputs (b : Byte) : (s.returning b).inputs = s.inputs := rfl
@[simp] theorem State.returning_backend (b : Byte) : (s.returning b).backend = s.backend := rfl
@[simp] theorem State.returning_out (b : Byte) : (s.returning b).out = { s.out with bus := some b } := rfl

@[simp] theorem State.quiet_cfg : s.quiet.cfg = s.cfg := rfl
@[simp] theorem State.quiet_ctrl : s.quiet.ctrl = s.ctrl := rfl
@[simp] theorem State.quiet_irqMask : s.quiet.irqMask = s.irqMask := rfl
@[simp] theorem State.quiet_pfifo : s.quiet.pfifo = s.pfifo := rfl
@[simp] theorem State.quiet_rfifo : s.quiet.rfifo = s.rfifo := rfl
@[simp] theorem State.quiet_statP : s.quiet.statP = s.statP := rfl
@[simp] theorem State.quiet_mode : s.quiet.mode = s.mode := rfl
@[simp] theorem State.quiet_drive : s.quiet.drive = s.drive := rfl
@[simp] theorem State.quiet_phase : s.quiet.phase = s.phase := rfl
@[simp] theorem State.quiet_curOp : s.quiet.curOp = s.curOp := rfl
@[simp] theorem State.quiet_curParams : s.quiet.curParams = s.curParams := rfl
@[simp] theorem State.quiet_queued : s.quiet.queued = s.queued := rfl
@[simp] theorem State.quiet_cur : s.quiet.cur = s.cur := rfl
@[simp] theorem State.quiet_target : s.quiet.target = s.target := rfl
@[simp] theorem State.quiet_setlocPending : s.quiet.setlocPending = s.setlocPending := rfl
@[simp] theorem State.quiet_seek : s.quiet.seek = s.seek := rfl
@[simp] theorem State.quiet_xfer : s.quiet.xfer = s.xfer := rfl
@[simp] theorem State.quiet_lastHdr : s.quiet.lastHdr = s.lastHdr := rfl
@[simp] theorem State.quiet_filterFile : s.quiet.filterFile = s.filterFile := rfl
@[simp] theorem State.quiet_filterChannel : s.quiet.filterChannel = s.filterChannel := rfl
@[simp] theorem State.quiet_muted : s.quiet.muted = s.muted := rfl
@[simp] theorem State.quiet_reportCount : s.quiet.reportCount = s.reportCount := rfl
@[simp] theorem State.quiet_latch : s.quiet.latch = s.latch := rfl
@[simp] theorem State.quiet_cmdGen : s.quiet.cmdGen = s.cmdGen := rfl
@[simp] theorem State.quiet_driveGen : s.quiet.driveGen = s.driveGen := rfl
@[simp] theorem State.quiet_queue : s.quiet.queue = s.queue := rfl
@[simp] theorem State.quiet_now : s.quiet.now = s.now := rfl
@[simp] theorem State.quiet_inputs : s.quiet.inputs = s.inputs := rfl
@[simp] theorem State.quiet_backend : s.quiet.backend = s.backend := rfl
@[simp] theorem State.quiet_out : s.quiet.out = Output.silent := rfl

@[simp] theorem State.firing_cfg (e : Event) : (s.firing e).cfg = s.cfg := rfl
@[simp] theorem State.firing_ctrl (e : Event) : (s.firing e).ctrl = s.ctrl := rfl
@[simp] theorem State.firing_irqMask (e : Event) : (s.firing e).irqMask = s.irqMask := rfl
@[simp] theorem State.firing_pfifo (e : Event) : (s.firing e).pfifo = s.pfifo := rfl
@[simp] theorem State.firing_rfifo (e : Event) : (s.firing e).rfifo = s.rfifo := rfl
@[simp] theorem State.firing_statP (e : Event) : (s.firing e).statP = s.statP := rfl
@[simp] theorem State.firing_mode (e : Event) : (s.firing e).mode = s.mode := rfl
@[simp] theorem State.firing_drive (e : Event) : (s.firing e).drive = s.drive := rfl
@[simp] theorem State.firing_phase (e : Event) : (s.firing e).phase = s.phase := rfl
@[simp] theorem State.firing_curOp (e : Event) : (s.firing e).curOp = s.curOp := rfl
@[simp] theorem State.firing_curParams (e : Event) : (s.firing e).curParams = s.curParams := rfl
@[simp] theorem State.firing_queued (e : Event) : (s.firing e).queued = s.queued := rfl
@[simp] theorem State.firing_cur (e : Event) : (s.firing e).cur = s.cur := rfl
@[simp] theorem State.firing_target (e : Event) : (s.firing e).target = s.target := rfl
@[simp] theorem State.firing_setlocPending (e : Event) : (s.firing e).setlocPending = s.setlocPending := rfl
@[simp] theorem State.firing_seek (e : Event) : (s.firing e).seek = s.seek := rfl
@[simp] theorem State.firing_xfer (e : Event) : (s.firing e).xfer = s.xfer := rfl
@[simp] theorem State.firing_lastHdr (e : Event) : (s.firing e).lastHdr = s.lastHdr := rfl
@[simp] theorem State.firing_filterFile (e : Event) : (s.firing e).filterFile = s.filterFile := rfl
@[simp] theorem State.firing_filterChannel (e : Event) : (s.firing e).filterChannel = s.filterChannel := rfl
@[simp] theorem State.firing_muted (e : Event) : (s.firing e).muted = s.muted := rfl
@[simp] theorem State.firing_reportCount (e : Event) : (s.firing e).reportCount = s.reportCount := rfl
@[simp] theorem State.firing_latch (e : Event) : (s.firing e).latch = s.latch := rfl
@[simp] theorem State.firing_cmdGen (e : Event) : (s.firing e).cmdGen = s.cmdGen := rfl
@[simp] theorem State.firing_driveGen (e : Event) : (s.firing e).driveGen = s.driveGen := rfl
@[simp] theorem State.firing_queue (e : Event) : (s.firing e).queue = { s.queue with events := s.queue.events.erase e } := rfl
@[simp] theorem State.firing_now (e : Event) : (s.firing e).now = e.due := rfl
@[simp] theorem State.firing_inputs (e : Event) : (s.firing e).inputs = s.inputs := rfl
@[simp] theorem State.firing_backend (e : Event) : (s.firing e).backend = s.backend := rfl
@[simp] theorem State.firing_out (e : Event) : (s.firing e).out = s.out := rfl

@[simp] theorem State.taking_cfg (t : Nat) (r : List HostStep) : (s.taking t r).cfg = s.cfg := rfl
@[simp] theorem State.taking_ctrl (t : Nat) (r : List HostStep) : (s.taking t r).ctrl = s.ctrl := rfl
@[simp] theorem State.taking_irqMask (t : Nat) (r : List HostStep) : (s.taking t r).irqMask = s.irqMask := rfl
@[simp] theorem State.taking_pfifo (t : Nat) (r : List HostStep) : (s.taking t r).pfifo = s.pfifo := rfl
@[simp] theorem State.taking_rfifo (t : Nat) (r : List HostStep) : (s.taking t r).rfifo = s.rfifo := rfl
@[simp] theorem State.taking_statP (t : Nat) (r : List HostStep) : (s.taking t r).statP = s.statP := rfl
@[simp] theorem State.taking_mode (t : Nat) (r : List HostStep) : (s.taking t r).mode = s.mode := rfl
@[simp] theorem State.taking_drive (t : Nat) (r : List HostStep) : (s.taking t r).drive = s.drive := rfl
@[simp] theorem State.taking_phase (t : Nat) (r : List HostStep) : (s.taking t r).phase = s.phase := rfl
@[simp] theorem State.taking_curOp (t : Nat) (r : List HostStep) : (s.taking t r).curOp = s.curOp := rfl
@[simp] theorem State.taking_curParams (t : Nat) (r : List HostStep) : (s.taking t r).curParams = s.curParams := rfl
@[simp] theorem State.taking_queued (t : Nat) (r : List HostStep) : (s.taking t r).queued = s.queued := rfl
@[simp] theorem State.taking_cur (t : Nat) (r : List HostStep) : (s.taking t r).cur = s.cur := rfl
@[simp] theorem State.taking_target (t : Nat) (r : List HostStep) : (s.taking t r).target = s.target := rfl
@[simp] theorem State.taking_setlocPending (t : Nat) (r : List HostStep) : (s.taking t r).setlocPending = s.setlocPending := rfl
@[simp] theorem State.taking_seek (t : Nat) (r : List HostStep) : (s.taking t r).seek = s.seek := rfl
@[simp] theorem State.taking_xfer (t : Nat) (r : List HostStep) : (s.taking t r).xfer = s.xfer := rfl
@[simp] theorem State.taking_lastHdr (t : Nat) (r : List HostStep) : (s.taking t r).lastHdr = s.lastHdr := rfl
@[simp] theorem State.taking_filterFile (t : Nat) (r : List HostStep) : (s.taking t r).filterFile = s.filterFile := rfl
@[simp] theorem State.taking_filterChannel (t : Nat) (r : List HostStep) : (s.taking t r).filterChannel = s.filterChannel := rfl
@[simp] theorem State.taking_muted (t : Nat) (r : List HostStep) : (s.taking t r).muted = s.muted := rfl
@[simp] theorem State.taking_reportCount (t : Nat) (r : List HostStep) : (s.taking t r).reportCount = s.reportCount := rfl
@[simp] theorem State.taking_latch (t : Nat) (r : List HostStep) : (s.taking t r).latch = s.latch := rfl
@[simp] theorem State.taking_cmdGen (t : Nat) (r : List HostStep) : (s.taking t r).cmdGen = s.cmdGen := rfl
@[simp] theorem State.taking_driveGen (t : Nat) (r : List HostStep) : (s.taking t r).driveGen = s.driveGen := rfl
@[simp] theorem State.taking_queue (t : Nat) (r : List HostStep) : (s.taking t r).queue = s.queue := rfl
@[simp] theorem State.taking_now (t : Nat) (r : List HostStep) : (s.taking t r).now = t := rfl
@[simp] theorem State.taking_inputs (t : Nat) (r : List HostStep) : (s.taking t r).inputs = r := rfl
@[simp] theorem State.taking_backend (t : Nat) (r : List HostStep) : (s.taking t r).backend = s.backend := rfl
@[simp] theorem State.taking_out (t : Nat) (r : List HostStep) : (s.taking t r).out = s.out := rfl

@[simp] theorem State.signal_cfg (c : BitVec 3) : (s.signal c).cfg = s.cfg := by
  unfold State.signal; split <;> rfl
@[simp] theorem State.signal_ctrl (c : BitVec 3) : (s.signal c).ctrl = s.ctrl := by
  unfold State.signal; split <;> rfl
@[simp] theorem State.signal_irqMask (c : BitVec 3) : (s.signal c).irqMask = s.irqMask := by
  unfold State.signal; split <;> rfl
@[simp] theorem State.signal_pfifo (c : BitVec 3) : (s.signal c).pfifo = s.pfifo := by
  unfold State.signal; split <;> rfl
@[simp] theorem State.signal_rfifo (c : BitVec 3) : (s.signal c).rfifo = s.rfifo := by
  unfold State.signal; split <;> rfl
@[simp] theorem State.signal_statP (c : BitVec 3) : (s.signal c).statP = s.statP := by
  unfold State.signal; split <;> rfl
@[simp] theorem State.signal_mode (c : BitVec 3) : (s.signal c).mode = s.mode := by
  unfold State.signal; split <;> rfl
@[simp] theorem State.signal_drive (c : BitVec 3) : (s.signal c).drive = s.drive := by
  unfold State.signal; split <;> rfl
@[simp] theorem State.signal_phase (c : BitVec 3) : (s.signal c).phase = s.phase := by
  unfold State.signal; split <;> rfl
@[simp] theorem State.signal_curOp (c : BitVec 3) : (s.signal c).curOp = s.curOp := by
  unfold State.signal; split <;> rfl
@[simp] theorem State.signal_curParams (c : BitVec 3) : (s.signal c).curParams = s.curParams := by
  unfold State.signal; split <;> rfl
@[simp] theorem State.signal_queued (c : BitVec 3) : (s.signal c).queued = s.queued := by
  unfold State.signal; split <;> rfl
@[simp] theorem State.signal_cur (c : BitVec 3) : (s.signal c).cur = s.cur := by
  unfold State.signal; split <;> rfl
@[simp] theorem State.signal_target (c : BitVec 3) : (s.signal c).target = s.target := by
  unfold State.signal; split <;> rfl
@[simp] theorem State.signal_setlocPending (c : BitVec 3) : (s.signal c).setlocPending = s.setlocPending := by
  unfold State.signal; split <;> rfl
@[simp] theorem State.signal_seek (c : BitVec 3) : (s.signal c).seek = s.seek := by
  unfold State.signal; split <;> rfl
@[simp] theorem State.signal_xfer (c : BitVec 3) : (s.signal c).xfer = s.xfer := by
  unfold State.signal; split <;> rfl
@[simp] theorem State.signal_lastHdr (c : BitVec 3) : (s.signal c).lastHdr = s.lastHdr := by
  unfold State.signal; split <;> rfl
@[simp] theorem State.signal_filterFile (c : BitVec 3) : (s.signal c).filterFile = s.filterFile := by
  unfold State.signal; split <;> rfl
@[simp] theorem State.signal_filterChannel (c : BitVec 3) : (s.signal c).filterChannel = s.filterChannel := by
  unfold State.signal; split <;> rfl
@[simp] theorem State.signal_muted (c : BitVec 3) : (s.signal c).muted = s.muted := by
  unfold State.signal; split <;> rfl
@[simp] theorem State.signal_reportCount (c : BitVec 3) : (s.signal c).reportCount = s.reportCount := by
  unfold State.signal; split <;> rfl
@[simp] theorem State.signal_latch (c : BitVec 3) : (s.signal c).latch = s.latch := by
  unfold State.signal; split <;> rfl
@[simp] theorem State.signal_cmdGen (c : BitVec 3) : (s.signal c).cmdGen = s.cmdGen := by
  unfold State.signal; split <;> rfl
@[simp] theorem State.signal_driveGen (c : BitVec 3) : (s.signal c).driveGen = s.driveGen := by
  unfold State.signal; split <;> rfl
@[simp] theorem State.signal_queue (c : BitVec 3) : (s.signal c).queue = s.queue := by
  unfold State.signal; split <;> rfl
@[simp] theorem State.signal_now (c : BitVec 3) : (s.signal c).now = s.now := by
  unfold State.signal; split <;> rfl
@[simp] theorem State.signal_inputs (c : BitVec 3) : (s.signal c).inputs = s.inputs := by
  unfold State.signal; split <;> rfl
@[simp] theorem State.signal_backend (c : BitVec 3) : (s.signal c).backend = s.backend := by
  unfold State.signal; split <;> rfl
@[simp] theorem State.signal_out (c : BitVec 3) :
    (s.signal c).out = { s.out with line := s.out.line || s.irqEnabled c } := by
  unfold State.signal; cases h : s.irqEnabled c <;> simp

@[simp] theorem State.setLatch_irqEnabled (c d : BitVec 3) : (s.setLatch c).irqEnabled d = s.irqEnabled d := rfl
@[simp] theorem State.setResponse_irqEnabled (bs : List Byte) (d : BitVec 3) :
    (s.setResponse bs).irqEnabled d = s.irqEnabled d := rfl

@[simp] theorem State.generateIrq_cfg (ty : IrqType) :
    (s.generateIrq ty).cfg = s.cfg := by
  simp [State.generateIrq]
@[simp] theorem State.generateIrq_ctrl (ty : IrqType) :
    (s.generateIrq ty).ctrl = s.ctrl := by
  simp [State.generateIrq]
@[simp] theorem State.generateIrq_irqMask (ty : IrqType) :
    (s.generateIrq ty).irqMask = s.irqMask := by
  simp [State.generateIrq]
@[simp] theorem State.generateIrq_pfifo (ty : IrqType) :
    (s.generateIrq ty).pfifo = s.pfifo := by
  simp [State.generateIrq]
@[simp] theorem State.generateIrq_rfifo (ty : IrqType) :
    (s.generateIrq ty).rfifo = s.rfifo := by
  simp [State.generateIrq]
@[simp] theorem State.generateIrq_statP (ty : IrqType) :
    (s.generateIrq ty).statP = s.statP := by
  simp [State.generateIrq]
@[simp] theorem State.generateIrq_mode (ty : IrqType) :
    (s.generateIrq ty).mode = s.mode := by
  simp [State.generateIrq]
@[simp] theorem State.generateIrq_drive (ty : IrqType) :
    (s.generateIrq ty).drive = s.drive := by
  simp [State.generateIrq]
@[simp] theorem State.generateIrq_phase (ty : IrqType) :
    (s.generateIrq ty).phase = s.phase := by
  simp [State.generateIrq]
@[simp] theorem State.generateIrq_curOp (ty : IrqType) :
    (s.generateIrq ty).curOp = s.curOp := by
  simp [State.generateIrq]
@[simp] theorem State.generateIrq_curParams (ty : IrqType) :
    (s.generateIrq ty).curParams = s.curParams := by
  simp [State.generateIrq]
@[simp] theorem State.generateIrq_queued (ty : IrqType) :
    (s.generateIrq ty).queued = s.queued := by
  simp [State.generateIrq]
@[simp] theorem State.generateIrq_cur (ty : IrqType) :
    (s.generateIrq ty).cur = s.cur := by
  simp [State.generateIrq]
@[simp] theorem State.generateIrq_target (ty : IrqType) :
    (s.generateIrq ty).target = s.target := by
  simp [State.generateIrq]
@[simp] theorem State.generateIrq_setlocPending (ty : IrqType) :
    (s.generateIrq ty).setlocPending = s.setlocPending := by
  simp [State.generateIrq]
@[simp] theorem State.generateIrq_seek (ty : IrqType) :
    (s.generateIrq ty).seek = s.seek := by
  simp [State.generateIrq]
@[simp] theorem State.generateIrq_xfer (ty : IrqType) :
    (s.generateIrq ty).xfer = s.xfer := by
  simp [State.generateIrq]
@[simp] theorem State.generateIrq_lastHdr (ty : IrqType) :
    (s.generateIrq ty).lastHdr = s.lastHdr := by
  simp [State.generateIrq]
@[simp] theorem State.generateIrq_filterFile (ty : IrqType) :
    (s.generateIrq ty).filterFile = s.filterFile := by
  simp [State.generateIrq]
@[simp] theorem State.generateIrq_filterChannel (ty : IrqType) :
    (s.generateIrq ty).filterChannel = s.filterChannel := by
  simp [State.generateIrq]
@[simp] theorem State.generateIrq_muted (ty : IrqType) :
    (s.generateIrq ty).muted = s.muted := by
  simp [State.generateIrq]
@[simp] theorem State.generateIrq_reportCount (ty : IrqType) :
    (s.generateIrq ty).reportCount = s.reportCount := by
  simp [State.generateIrq]
@[simp] theorem State.generateIrq_latch (ty : IrqType) :
    (s.generateIrq ty).latch = { pending := true, kind := ty.code } := by
  simp [State.generateIrq]
@[simp] theorem State.generateIrq_cmdGen (ty : IrqType) :
    (s.generateIrq ty).cmdGen = s.cmdGen := by
  simp [State.generateIrq]
@[simp] theorem State.generateIrq_driveGen (ty : IrqType) :
    (s.generateIrq ty).driveGen = s.driveGen := by
  simp [State.generateIrq]
@[simp] theorem State.generateIrq_queue (ty : IrqType) :
    (s.generateIrq ty).queue = {
      events := s.queue.events ++ [{ due := s.now + recheckDelay s.cfg ty, seq := s.queue.nextSeq, kind := .irqRecheck, gen := 0 }]
      nextSeq := s.queue.nextSeq + 1 } := by
  simp [State.generateIrq]
@[simp] theorem State.generateIrq_now (ty : IrqType) :
    (s.generateIrq ty).now = s.now := by
  simp [State.generateIrq]
@[simp] theorem State.generateIrq_inputs (ty : IrqType) :
    (s.generateIrq ty).inputs = s.inputs := by
  simp [State.generateIrq]
@[simp] theorem State.generateIrq_backend (ty : IrqType) :
    (s.generateIrq ty).backend = s.backend := by
  simp [State.generateIrq]
@[simp] theorem State.generateIrq_out (ty : IrqType) :
    (s.generateIrq ty).out = { s.out with line := s.out.line || s.irqEnabled ty.code } := by
  simp [State.generateIrq]

@[simp] theorem State.respond_cfg (bs : List Byte) (ty : IrqType) :
    (s.respond bs ty).cfg = s.cfg := by
  simp [State.respond]
@[simp] theorem State.respond_ctrl (bs : List Byte) (ty : IrqType) :
    (s.respond bs ty).ctrl = s.ctrl := by
  simp [State.respond]
@[simp] theorem State.respond_irqMask (bs : List Byte) (ty : IrqType) :
    (s.respond bs ty).irqMask = s.irqMask := by
  simp [State.respond]
@[simp] theorem State.respond_pfifo (bs : List Byte) (ty : IrqType) :
    (s.respond bs ty).pfifo = s.pfifo := by
  simp [State.respond]
@[simp] theorem State.respond_rfifo (bs : List Byte) (ty : IrqType) :
    (s.respond bs ty).rfifo = s.rfifo.clear.pushAll s.cfg.respCap bs := by
  simp [State.respond]
@[simp] theorem State.respond_statP (bs : List Byte) (ty : IrqType) :
    (s.respond bs ty).statP = s.statP := by
  simp [State.respond]
@[simp] theorem State.respond_mode (bs : List Byte) (ty : IrqType) :
    (s.respond bs ty).mode = s.mode := by
  simp [State.respond]
@[simp] theorem State.respond_drive (bs : List Byte) (ty : IrqType) :
    (s.respond bs ty).drive = s.drive := by
  simp [State.respond]
@[simp] theorem State.respond_phase (bs : List Byte) (ty : IrqType) :
    (s.respond bs ty).phase = s.phase := by
  simp [State.respond]
@[simp] theorem State.respond_curOp (bs : List Byte) (ty : IrqType) :
    (s.respond bs ty).curOp = s.curOp := by
  simp [State.respond]
@[simp] theorem State.respond_curParams (bs : List Byte) (ty : IrqType) :
    (s.respond bs ty).curParams = s.curParams := by
  simp [State.respond]
@[simp] theorem State.respond_queued (bs : List Byte) (ty : IrqType) :
    (s.respond bs ty).queued = s.queued := by
  simp [State.respond]
@[simp] theorem State.respond_cur (bs : List Byte) (ty : IrqType) :
    (s.respond bs ty).cur = s.cur := by
  simp [State.respond]
@[simp] theorem State.respond_target (bs : List Byte) (ty : IrqType) :
    (s.respond bs ty).target = s.target := by
  simp [State.respond]
@[simp] theorem State.respond_setlocPending (bs : List Byte) (ty : IrqType) :
    (s.respond bs ty).setlocPending = s.setlocPending := by
  simp [State.respond]
@[simp] theorem State.respond_seek (bs : List Byte) (ty : IrqType) :
    (s.respond bs ty).seek = s.seek := by
  simp [State.respond]
@[simp] theorem State.respond_xfer (bs : List Byte) (ty : IrqType) :
    (s.respond bs ty).xfer = s.xfer := by
  simp [State.respond]
@[simp] theorem State.respond_lastHdr (bs : List Byte) (ty : IrqType) :
    (s.respond bs ty).lastHdr = s.lastHdr := by
  simp [State.respond]
@[simp] theorem State.respond_filterFile (bs : List Byte) (ty : IrqType) :
    (s.respond bs ty).filterFile = s.filterFile := by
  simp [State.respond]
@[simp] theorem State.respond_filterChannel (bs : List Byte) (ty : IrqType) :
    (s.respond bs ty).filterChannel = s.filterChannel := by
  simp [State.respond]
@[simp] theorem State.respond_muted (bs : List Byte) (ty : IrqType) :
    (s.respond bs ty).muted = s.muted := by
  simp [State.respond]
@[simp] theorem State.respond_reportCount (bs : List Byte) (ty : IrqType) :
    (s.respond bs ty).reportCount = s.reportCount := by
  simp [State.respond]
@[simp] theorem State.respond_latch (bs : List Byte) (ty : IrqType) :
    (s.respond bs ty).latch = { pending := true, kind := ty.code } := by
  simp [State.respond]
@[simp] theorem State.respond_cmdGen (bs : List Byte) (ty : IrqType) :
    (s.respond bs ty).cmdGen = s.cmdGen := by
  simp [State.respond]
@[simp] theorem State.respond_driveGen (bs : List Byte) (ty : IrqType) :
    (s.respond bs ty).driveGen = s.driveGen := by
  simp [State.respond]
@[simp] theorem State.respond_queue (bs : List Byte) (ty : IrqType) :
    (s.respond bs ty).queue = {
      events := s.queue.events ++ [{ due := s.now + recheckDelay s.cfg ty, seq := s.queue.nextSeq, kind := .irqRecheck, gen := 0 }]
      nextSeq := s.queue.nextSeq + 1 } := by
  simp [State.respond]
@[simp] theorem State.respond_now (bs : List Byte) (ty : IrqType) :
    (s.respond bs ty).now = s.now := by
  simp [State.respond]
@[simp] theorem State.respond_inputs (bs : List Byte) (ty : IrqType) :
    (s.respond bs ty).inputs = s.inputs := by
  simp [State.respond]
@[simp] theorem State.respond_backend (bs : List Byte) (ty : IrqType) :
    (s.respond bs ty).backend = s.backend := by
  simp [State.respond]
@[simp] theorem State.respond_out (bs : List Byte) (ty : IrqType) :
    (s.respond bs ty).out = { s.out with line := s.out.line || s.irqEnabled ty.code } := by
  simp [State.respond]

end Sys2Proof.Machine
end

