-- ==== Sys2Proof/Laws/Ops.lean ====
section
/-! SUPPORT. One lemma for each shared operation of Ops.lean and Ports.lean that says once everything it can do: the
FIFOs, the signal, the response, the start of a command, the acknowledgement, the issue of a command. -/

namespace Sys2Proof.Machine

/-! ### FIFOs -/

/-- The ring's invariant, clause by clause. -/
theorem Fifo.wf_iff (cap : Nat) (f : Fifo) : f.wf cap = true ↔
    f.buf.length = cap ∧ f.rd < cap ∧ f.wr < cap ∧ f.size ≤ cap ∧ f.wr = (f.rd + f.size) % cap := by
  simp [Fifo.wf, and_assoc]

/-- As many live bytes as the size says. -/
@[simp] theorem Fifo.length_contents (cap : Nat) (f : Fifo) : (f.contents cap).length = f.size := by
  simp [Fifo.contents]

/-- A push into a full FIFO is dropped. -/
theorem Fifo.push_full (cap : Nat) (f : Fifo) (b : Byte) (h : f.size = cap) : f.push cap b = f := by
  simp [Fifo.push, h]

/-- A push into a FIFO with room. -/
theorem Fifo.push_room (cap : Nat) (f : Fifo) (b : Byte) (h : f.size ≠ cap) : f.push cap b =
    { buf := f.buf.set f.wr b, rd := f.rd, wr := (f.wr + 1) % cap, size := f.size + 1 } := by
  simp [Fifo.push, h]

/-- A pop of an empty FIFO. -/
theorem Fifo.pop_empty (cap : Nat) (f : Fifo) (h : f.size = 0) : f.pop cap = (0x00, f) := by
  simp [Fifo.pop, h]

/-- A pop of a FIFO that is not empty. -/
theorem Fifo.pop_ready (cap : Nat) (f : Fifo) (h : f.size ≠ 0) : f.pop cap =
    (f.buf.getD f.rd 0x00, { buf := f.buf, rd := (f.rd + 1) % cap, wr := f.wr, size := f.size - 1 }) := by
  simp [Fifo.pop, h]

/-- A push keeps the ring's invariant. -/
theorem Fifo.push_wf (cap : Nat) (f : Fifo) (b : Byte) (h : f.wf cap = true) : (f.push cap b).wf cap = true := by
  by_cases full : f.size = cap
  · rw [Fifo.push_full cap f b full]; exact h
  · rw [Fifo.wf_iff] at h
    obtain ⟨h1, h2, h3, h4, h5⟩ := h
    rw [Fifo.push_room cap f b full, Fifo.wf_iff]
    refine ⟨by simp [h1], h2, Nat.mod_lt _ (by omega), by simp only; omega, ?_⟩
    simp only [h5, Nat.mod_add_mod]
    congr 1

/-- A pop keeps the ring's invariant. -/
theorem Fifo.pop_wf (cap : Nat) (f : Fifo) (h : f.wf cap = true) : (f.pop cap).2.wf cap = true := by
  by_cases none : f.size = 0
  · rw [Fifo.pop_empty cap f none]; exact h
  · rw [Fifo.wf_iff] at h
    obtain ⟨h1, h2, h3, h4, h5⟩ := h
    rw [Fifo.pop_ready cap f none, Fifo.wf_iff]
    refine ⟨h1, Nat.mod_lt _ (by omega), h3, by simp only; omega, ?_⟩
    simp only [h5, Nat.mod_add_mod]
    congr 1
    omega

/-- A clear keeps the ring's invariant. -/
theorem Fifo.clear_wf (cap : Nat) (f : Fifo) (h : f.wf cap = true) : f.clear.wf cap = true := by
  rw [Fifo.wf_iff] at *
  simp only [Fifo.clear, Nat.add_zero, Nat.zero_mod, and_true]
  exact ⟨h.1, by omega, by omega, Nat.zero_le _⟩

/-- Pushing a list keeps the ring's invariant, whatever does not fit. -/
theorem Fifo.pushAll_wf (cap : Nat) (bs : List Byte) : ∀ f : Fifo, f.wf cap = true →
    (f.pushAll cap bs).wf cap = true := by
  induction bs with
  | nil => intro f h; exact h
  | cons b bs ih => intro f h; exact ih _ (Fifo.push_wf cap f b h)

/-! ### The event queue and the backend -/

/-- The least event of a list is none exactly for the empty list. -/
theorem leastEvent_eq_none (es : List Event) : leastEvent es = none ↔ es = [] := by
  cases es with
  | nil => simp [leastEvent]
  | cons e es =>
    simp only [leastEvent, reduceCtorEq, iff_false]
    split
    · simp
    · split <;> simp

/-- Reading a sector changes nothing but the backend's draws. -/
theorem State.askSector_state (s : State) : ∃ b : Backend, s.askSector.2 = { s with backend := b } := by
  unfold State.askSector; split <;> exact ⟨_, rfl⟩

/-- Reading audio changes nothing but the backend's draws. -/
theorem State.askAudio_state (s : State) : ∃ b : Backend, s.askAudio.2 = { s with backend := b } := by
  unfold State.askAudio; split <;> exact ⟨_, rfl⟩

/-! ### Interrupts -/

/-- The signal of a code is a pulse on the line exactly when the code is enabled. -/
theorem State.signal_eq (s : State) (code : BitVec 3) :
    s.signal code = { s with out := { s.out with line := s.out.line || s.irqEnabled code } } := by
  unfold State.signal
  cases h : s.irqEnabled code <;> simp [State.assertLine]

/-- The re-check event of an interrupt raised in a state. -/
def recheckEvent (s : State) (type : IrqType) : Event :=
  { due := s.now + recheckDelay s.cfg type, seq := s.queue.nextSeq, kind := .irqRecheck, gen := 0 }

/-- A response: the FIFO, the latch, the line, one re-check event, and nothing else. -/
theorem State.respond_eq (s : State) (bytes : List Byte) (type : IrqType) : s.respond bytes type = { s with
    rfifo := s.rfifo.clear.pushAll s.cfg.respCap bytes
    latch := { pending := true, kind := type.code }
    out := { s.out with line := s.out.line || s.irqEnabled type.code }
    queue := { events := s.queue.events ++ [recheckEvent s type], nextSeq := s.queue.nextSeq + 1 } } := by
  simp only [State.respond, State.generateIrq, State.signal_eq]
  rfl

/-- No interrupt type has code 0. -/
theorem IrqType.code_ne_zero (type : IrqType) : type.code ≠ 0 := by cases type <;> decide

/-- The acknowledgement, by phase and queue: latch cleared; a waiting command retires; the queued one starts. -/
theorem State.ackIrq_eq (s : State) : s.ackIrq =
    if s.phase = .waitingIrq then
      if s.queued.valid = true then
        { s with latch := { pending := false, kind := 0 }, phase := .idle,
                 queued := { s.queued with valid := false } }.startCommand s.queued.op s.queued.params
      else { s with latch := { pending := false, kind := 0 }, phase := .idle }
    else { s with latch := { pending := false, kind := 0 } } := rfl

/-! ### Issuing a command -/

/-- The issue of a command, by phase and queue: started, dropped, or queued; the parameters leave `pfifo`. -/
theorem issueCommand_eq (op : Byte) (s : State) : issueCommand op s =
    if s.phase = .idle then { s with pfifo := s.pfifo.clear }.startCommand op (s.pfifo.contents s.cfg.paramCap)
    else if s.queued.valid = true then { s with pfifo := s.pfifo.clear }
    else { s with
      pfifo := s.pfifo.clear
      queued := { valid := true, op := op, params := s.pfifo.contents s.cfg.paramCap } } := rfl

end Sys2Proof.Machine
end

