-- ==== Sys2Proof/Laws/Commands.lean ====
section
/-! SUPPORT. What the dispatch of a command, its tail, the track queries and the end of a second phase can do. -/

namespace Sys2Proof.Machine

/-- The dispatcher, by its checks: wrong count, no disc, or the handler in the state it runs in. -/
theorem dispatch_eq (op : Byte) (h : Handler) (s : State) : dispatch op h s =
    if countOk op s.curParams.length = true then
      if needsDisc op = true then
        if s.backend.present = true then settle (h s.curParams s.queried) else (Answer.noDisc, s.queried)
      else settle (h s.curParams s)
    else (Answer.err s errCount, s) := rfl

/-- A handler that succeeds clears ERROR and CHECK_ERROR after building its answer; one that fails changes nothing
more. -/
theorem settle_eq (r : Answer × State) : settle r = (r.1, if r.1.ok = true then r.2.statClear 0x11 else r.2) := by
  unfold settle
  split <;> rfl

/-- The tail of a command: the response, and either the second phase scheduled or the wait for the acknowledgement. -/
theorem conclude_eq (a : Answer) (s : State) : conclude (a, s) =
    match a.second with
    | some d => { s.respond a.bytes a.irq with phase := .secondResponse }.schedule d .cmdSecond s.cmdGen
    | none => { s.respond a.bytes a.irq with phase := .waitingIrq } := rfl

/-- Every command ends with its interrupt latched. -/
theorem conclude_latch (a : Answer) (s : State) :
    (conclude (a, s)).latch = { pending := true, kind := a.irq.code } := by
  rw [conclude_eq]; split <;> simp

/-- The second phase exists for Stop, Pause, Init and ReadTOC only. -/
theorem finish_isSome (op : Byte) (s : State) :
    (finish op s).isSome = true ↔ op = 0x08 ∨ op = 0x09 ∨ op = 0x0A ∨ op = 0x1E := by
  have key : ∀ n : Byte, op.toNat = n.toNat ↔ op = n := fun n => ⟨BitVec.eq_of_toNat_eq, fun h => h ▸ rfl⟩
  have h8 := key 0x08
  have h9 := key 0x09
  have hA := key 0x0A
  have hE := key 0x1E
  simp only [BitVec.reduceToNat, BitVec.ofNat_eq_ofNat] at h8 h9 hA hE
  unfold finish
  split <;> simp_all

/-- The opcode dispatch is one of the thirty-one meanings or, from 0x1F up, the invalid-command path. -/
theorem dispatchOpcode_invalid (op : Byte) (s : State) (h : 0x1F ≤ op.toNat) :
    dispatchOpcode op s = .next (runInvalid s) := by
  unfold dispatchOpcode
  rw [List.getElem?_eq_none (by simpa [commandTable] using h)]
  simp only [execInvalid1F, execInvalid20, execInvalid40, execInvalid80, ite_self]

/-- Asking for the tracks one after another changes nothing but the backend's draws. -/
theorem trackScan_state (p : Msf) (n : Nat) : ∀ (t best : Nat) (s : State),
    ∃ b : Backend, (trackScan p t n best s).2 = { s with backend := b } := by
  induction n with
  | zero => intro t best s; exact ⟨s.backend, rfl⟩
  | succ n ih =>
    intro t best s
    obtain ⟨b, e⟩ := ih (t + 1) (if absf (s.backend.start t) ≤ absf p then t else best) s.queried
    exact ⟨b, e⟩

/-- `TrackOf` changes nothing but the backend's draws. -/
theorem trackOf_state (p : Msf) (s : State) : ∃ b : Backend, (trackOf p s).2 = { s with backend := b } := by
  obtain ⟨b, e⟩ := trackScan_state p (s.backend.tracks.2 + 1 - s.backend.tracks.1) s.backend.tracks.1
    s.backend.tracks.1 s.queried
  exact ⟨b, e⟩

/-- `EndOfTrack` changes nothing but the backend's draws. -/
theorem endOfTrack_state (p : Msf) (s : State) : ∃ b : Backend, (endOfTrack p s).2 = { s with backend := b } := by
  obtain ⟨b, e⟩ := trackOf_state p s
  refine ⟨b.advance.advance, ?_⟩
  show (trackOf p s).2.queried.queried = _
  rw [e]
  rfl

/-- Looking for an auto-pause changes nothing but the backend's draws. -/
theorem autoPauseDue_state (s : State) : ∃ b : Backend, (autoPauseDue s).2 = { s with backend := b } := by
  unfold autoPauseDue
  split
  · exact endOfTrack_state s.cur s
  · exact ⟨s.backend, rfl⟩

/-- The audio output writes the audio output only. -/
theorem audioOut_eq (a : Pcm) (s : State) :
    audioOut a s = { s with out := { s.out with audio := if s.muted = true then s.out.audio else some a } } := by
  unfold audioOut
  split <;> rfl

end Sys2Proof.Machine
end

