-- ==== Sys2Proof/Laws/Memory.lean ====
section
/-! SUPPORT. The byte array: loading bytes gives the canonical form, and every index reads as the byte loaded there. -/

namespace Sys2Proof.Machine

/-- The reset content is in the canonical form. -/
theorem Memory.wf_nil : Memory.wf [] = true := rfl

/-- After reset the transfer buffer is in the canonical form. -/
theorem State.reset_buffer_wf : Memory.wf State.reset.xfer.buf = true := rfl

/-- What loading makes is canonical from any index at or below the one it starts at. -/
theorem Memory.loadFrom_wfFrom (bs : List Byte) : ∀ i j : Nat, j ≤ i →
    Memory.wfFrom j (Memory.loadFrom i bs) = true := by
  induction bs with
  | nil => intro i j _; rfl
  | cons b bs ih =>
    intro i j h
    simp only [Memory.loadFrom]
    split
    · exact ih (i + 1) j (by omega)
    · rename_i hb
      simp only [Memory.wfFrom, h, ih (i + 1) (i + 1) (Nat.le_refl _), Bool.and_true]
      simpa using hb

/-- Loading bytes, the one operation that writes a byte array, keeps the canonical form. -/
theorem Memory.loadFrom_wf (i : Nat) (bs : List Byte) : Memory.wf (Memory.loadFrom i bs) = true :=
  Memory.loadFrom_wfFrom bs i 0 (Nat.zero_le i)

/-- Reading after loading from index `i`: the byte loaded there, blank before and after. -/
theorem Memory.read_loadFrom (bs : List Byte) : ∀ i k : Nat,
    Memory.read (Memory.loadFrom i bs) k = if i ≤ k then bs.getD (k - i) 0x00 else 0x00 := by
  induction bs with
  | nil => intro i k; simp [Memory.loadFrom, Memory.read, Memory.blank]
  | cons b bs ih =>
    intro i k
    have tail := ih (i + 1) k
    have past : i < k → (if i + 1 ≤ k then bs.getD (k - (i + 1)) 0x00 else 0x00) = (b :: bs).getD (k - i) 0x00 := by
      intro h
      obtain ⟨j, rfl⟩ : ∃ j, k = i + 1 + j := ⟨k - i - 1, by omega⟩
      rw [if_pos (by omega), show i + 1 + j - i = j + 1 by omega, show i + 1 + j - (i + 1) = j by omega]
      simp
    simp only [Memory.loadFrom]
    split
    · rename_i hb
      rw [tail]
      rcases Nat.lt_trichotomy k i with h | rfl | h
      · rw [if_neg (by omega), if_neg (by omega)]
      · rw [if_neg (by omega), if_pos (Nat.le_refl _), hb, Nat.sub_self]; rfl
      · rw [past h, if_pos (by omega)]
    · simp only [Memory.read, List.lookup] at tail ⊢
      rcases Nat.lt_trichotomy k i with h | rfl | h
      · rw [show (k == i) = false by simp; omega]
        simp only []
        rw [tail, if_neg (by omega), if_neg (by omega)]
      · simp
      · rw [show (k == i) = false by simp; omega]
        simp only []
        rw [tail, past h, if_pos (by omega)]

/-- A transfer buffer that holds an image is canonical. -/
theorem Xfer.holding_wf (n : Nat) (image : List Byte) : Memory.wf (Xfer.holding n image).buf = true :=
  Memory.loadFrom_wf 0 _

/-- A transfer buffer that holds an image reads as the image's first `n` bytes. -/
theorem Xfer.holding_read (n : Nat) (image : List Byte) (k : Nat) :
    Memory.read (Xfer.holding n image).buf k = imageByte image n k := by
  simp only [Xfer.holding, Memory.read_loadFrom, imageByte, List.getD_eq_getElem?_getD, List.getElem?_take]
  by_cases h : k < n <;> simp [h]

end Sys2Proof.Machine
end

