-- ==== Sys2Proof/Laws/PerInstr.lean ====
section
/-! SUPPORT. Statements for all instructions, one lemma for each constructor. -/

namespace Sys2Proof.Laws.EncodedLength

/-- The length of an instruction's encoding by its space: two bytes for a port access, selector and data (30_encoding.md
R80, log entry 18), one for a command (R81, R88) and one for an event kind (R93). -/
def Statement (i : Instr) : Prop :=
  match encode i with
  | .port bytes => bytes.length = 2
  | .command bytes => bytes.length = 1
  | .event bytes _ => bytes.length = 1

theorem p0r : Statement .p0r := rfl
theorem p0w (data : Byte) : Statement (.p0w data) := rfl
theorem p1r : Statement .p1r := rfl
theorem p1wCmd (data : Byte) : Statement (.p1wCmd data) := rfl
theorem p1wParam (data : Byte) : Statement (.p1wParam data) := rfl
theorem p2r : Statement .p2r := rfl
theorem p2wNop (data : Byte) : Statement (.p2wNop data) := rfl
theorem p2wParam (data : Byte) : Statement (.p2wParam data) := rfl
theorem p3r : Statement .p3r := rfl
theorem p3wReq (data : Byte) : Statement (.p3wReq data) := rfl
theorem p3wMask (data : Byte) : Statement (.p3wMask data) := rfl
theorem sync : Statement .sync := rfl
theorem getstat : Statement .getstat := rfl
theorem setloc : Statement .setloc := rfl
theorem play : Statement .play := rfl
theorem forward : Statement .forward := rfl
theorem backward : Statement .backward := rfl
theorem readN : Statement .readN := rfl
theorem standby : Statement .standby := rfl
theorem stop : Statement .stop := rfl
theorem pause : Statement .pause := rfl
theorem init : Statement .init := rfl
theorem mute : Statement .mute := rfl
theorem demute : Statement .demute := rfl
theorem setfilter : Statement .setfilter := rfl
theorem setmode : Statement .setmode := rfl
theorem getparam : Statement .getparam := rfl
theorem getlocL : Statement .getlocL := rfl
theorem getlocP : Statement .getlocP := rfl
theorem setSession : Statement .setSession := rfl
theorem getTN : Statement .getTN := rfl
theorem getTD : Statement .getTD := rfl
theorem seekL : Statement .seekL := rfl
theorem seekP : Statement .seekP := rfl
theorem setClock : Statement .setClock := rfl
theorem getClock : Statement .getClock := rfl
theorem test : Statement .test := rfl
theorem getID : Statement .getID := rfl
theorem readS : Statement .readS := rfl
theorem reset : Statement .reset := rfl
theorem getQ : Statement .getQ := rfl
theorem readTOC : Statement .readTOC := rfl
theorem invalid1F : Statement .invalid1F := rfl
theorem invalid20 (op : Byte) : Statement (.invalid20 op) := rfl
theorem invalid40 (op : Byte) : Statement (.invalid40 op) := rfl
theorem invalid80 (op : Byte) : Statement (.invalid80 op) := rfl
theorem cmdExec (gen : Nat) : Statement (.cmdExec gen) := rfl
theorem cmdSecond (gen : Nat) : Statement (.cmdSecond gen) := rfl
theorem seekDone (gen : Nat) : Statement (.seekDone gen) := rfl
theorem sectorRead (gen : Nat) : Statement (.sectorRead gen) := rfl
theorem playSector (gen : Nat) : Statement (.playSector gen) := rfl
theorem irqRecheck (gen : Nat) : Statement (.irqRecheck gen) := rfl

end Sys2Proof.Laws.EncodedLength
end

