-- ==== Sys2Proof/Laws/Step.lean ====
section
/-! SUPPORT. What the fetch yields always decodes, and what a step that gives a next state did. -/

namespace Sys2Proof.Machine

/-- The instruction of a pending event. -/
def Event.instr (e : Event) : Instr :=
  match e.kind with
  | .cmdExec => .cmdExec e.gen
  | .cmdSecond => .cmdSecond e.gen
  | .seekDone => .seekDone e.gen
  | .sectorRead => .sectorRead e.gen
  | .playSector => .playSector e.gen
  | .irqRecheck => .irqRecheck e.gen

/-- An event in the queue decodes to its own instruction. -/
theorem Event.decode_encoded (e : Event) : decode e.encoded = .ok e.instr := by
  obtain ⟨due, seq, kind, gen⟩ := e
  cases kind <;> simp [Event.encoded, EventKind.index] <;> rfl

/-- The instruction of an access to port 0, 1, 2 or, for any other number, 3. -/
def accessInstr (port : Nat) (write : Option Byte) (mode : Bool) : Instr :=
  match port, write with
  | 0, none => .p0r
  | 0, some v => .p0w v
  | 1, none => .p1r
  | 1, some v => if mode then .p1wParam v else .p1wCmd v
  | 2, none => .p2r
  | 2, some v => if mode then .p2wParam v else .p2wNop v
  | _, none => .p3r
  | _, some v => if mode then .p3wMask v else .p3wReq v

/-- Every byte access to a port decodes. -/
theorem decode_access (port : Nat) (write : Option Byte) (mode : Bool) (h : port < 4) :
    decode (accessEncoded port write mode) = .ok (accessInstr port write mode) := by
  rcases port with _ | _ | _ | _ | port
  · cases write <;> cases mode <;> simp [accessEncoded, selector] <;> rfl
  · cases write <;> cases mode <;> simp [accessEncoded, selector] <;> rfl
  · cases write <;> cases mode <;> simp [accessEncoded, selector] <;> rfl
  · cases write <;> cases mode <;> simp [accessEncoded, selector] <;> rfl
  · omega

/-- What runs after the fetch. -/
def runFetched : Fetched → StepResult
  | .done t => .next t
  | .run e t => runEncoded e t
  | .fault why => .fault why
  | .refused why => .refused why

/-- A step is what its fetch yields. -/
theorem step_eq (s : State) : step s = runFetched (fetch s.quiet) := by
  unfold step runFetched
  cases fetch s.quiet <;> rfl

/-- An access that gives a next state was a byte access to a port, and ran its instruction. -/
theorem runFetched_access (a : BusAccess) (s t : State) (h : runFetched (fetchAccess a s) = .next t) :
    s.cfg.cdBase ≤ a.addr ∧ a.addr < s.cfg.cdBase + 4 ∧ a.bits = 8 ∧
      exec (accessInstr (a.addr - s.cfg.cdBase) a.write s.paramMode) s = .next t := by
  unfold fetchAccess at h
  by_cases outside : a.addr < s.cfg.cdBase ∨ s.cfg.cdBase + 4 ≤ a.addr
  · simp [outside, runFetched] at h
  · by_cases width : a.bits = 8
    · simp only [outside, width, runFetched, runEncoded, if_false, ne_eq, not_true_eq_false] at h
      rw [decode_access _ _ _ (by omega)] at h
      exact ⟨by omega, by omega, width, h⟩
    · simp [outside, width, runFetched] at h

/-- What a step that gives a next state did: nothing, an event body, time passing, power-on, or a port operation. -/
theorem step_next_cases (s t : State) (h : step s = .next t) :
    (s.inputs = [] ∧ t = s.quiet) ∨
    ∃ hd rest, s.inputs = hd :: rest ∧ s.now ≤ hd.cycle ∧
      ((∃ e, s.queue.nextDue hd.cycle = some e ∧ exec e.instr (s.quiet.firing e) = .next t) ∨
       (s.queue.nextDue hd.cycle = none ∧
        ((∃ c, hd = .tick c ∧ t = s.quiet.taking c rest) ∨
         (∃ c, hd = .powerOn c ∧ t = State.powerOn s.cfg c rest s.backend) ∨
         (∃ c a, hd = .access c a ∧ s.cfg.cdBase ≤ a.addr ∧ a.addr < s.cfg.cdBase + 4 ∧ a.bits = 8 ∧
            exec (accessInstr (a.addr - s.cfg.cdBase) a.write s.paramMode) (s.quiet.taking c rest) = .next t)))) := by
  rw [step_eq] at h
  have inputs : s.quiet.inputs = s.inputs := rfl
  cases hin : s.inputs with
  | nil =>
    simp only [fetch, inputs, hin, runFetched, Host.Outcome.next.injEq] at h
    exact .inl ⟨rfl, h.symm⟩
  | cons hd rest =>
    refine .inr ⟨hd, rest, rfl, ?_⟩
    simp only [fetch, inputs, hin] at h
    have now : s.quiet.now = s.now := rfl
    have queue : s.quiet.queue = s.queue := rfl
    simp only [now, queue] at h
    by_cases past : hd.cycle < s.now
    · simp [past, runFetched] at h
    · simp only [past, if_false] at h
      refine ⟨by omega, ?_⟩
      cases due : s.queue.nextDue hd.cycle with
      | some e =>
        simp only [due, runFetched, runEncoded, Event.decode_encoded] at h
        exact .inl ⟨e, rfl, h⟩
      | none =>
        simp only [due] at h
        refine .inr ⟨rfl, ?_⟩
        cases hd with
        | tick c =>
          simp only [fetchHost, HostStep.cycle, runFetched, Host.Outcome.next.injEq] at h
          exact .inl ⟨c, rfl, h.symm⟩
        | powerOn c =>
          simp only [fetchHost, HostStep.cycle, runFetched, Host.Outcome.next.injEq] at h
          exact .inr (.inl ⟨c, rfl, h.symm⟩)
        | access c a =>
          obtain ⟨h1, h2, h3, h4⟩ := runFetched_access a (s.quiet.taking c rest) t h
          exact .inr (.inr ⟨c, a, rfl, h1, h2, h3, h4⟩)

/-- What a CMD_EXEC that gives a next state did: nothing (stale), a deferral, or the latched command. -/
theorem cmdExec_next_cases (g : Nat) (s t : State) (h : exec (.cmdExec g) s = .next t) :
    (t = s ∧ (g ≠ s.cmdGen ∨ s.phase ≠ .executing)) ∨
    (g = s.cmdGen ∧ s.phase = .executing ∧
      ((s.latch.pending = true ∧ t = s.defer .cmdExec g) ∨
       (s.latch.pending = false ∧ dispatchOpcode s.curOp s = .next t))) := by
  simp only [exec, execCmdExec] at h
  split at h
  · rename_i stale
    cases h
    exact .inl ⟨rfl, stale⟩
  · rename_i live
    push Not at live
    refine .inr ⟨live.1, live.2, ?_⟩
    split at h
    · rename_i pending
      cases h
      exact .inl ⟨pending, rfl⟩
    · rename_i clear
      exact .inr ⟨by simpa using clear, h⟩

end Sys2Proof.Machine
end

