-- ==== Sys2Proof/Tests/Slice0.lean ====
section
/-! SUPPORT. Tests: the checks of WellFormed, a decoded word for each constructor, steps of the spec's vectors
(95_test_vectors.md; the expected values are the spec's), and a witness for the hypotheses of each statement. -/

namespace Sys2Proof.Tests

open Sys2Proof Sys2Proof.Machine

/-! ### WellFormed: each check refuses an ill-formed term -/

theorem test_wf_invalid20_below : (Instr.invalid20 0x1F).wf = false := by decide
theorem test_wf_invalid20_above : (Instr.invalid20 0x40).wf = false := by decide
theorem test_wf_invalid40_below : (Instr.invalid40 0x3F).wf = false := by decide
theorem test_wf_invalid40_above : (Instr.invalid40 0x80).wf = false := by decide
theorem test_wf_invalid80_below : (Instr.invalid80 0x7F).wf = false := by decide

/-! ### Decoding: the words are written from the tables of 30_encoding.md (R80: `port<<2 | w<<1 | ctrl[0]`; R81; R93) -/

theorem test_decode_p0r : decode (.port [0b00000000, 0x5A]) = .ok .p0r ∧
    decode (.port [0b00000001, 0x5A]) = .ok .p0r := by decide
theorem test_decode_p0w : decode (.port [0b00000010, 0x5A]) = .ok (.p0w 0x5A) ∧
    decode (.port [0b00000011, 0x5A]) = .ok (.p0w 0x5A) := by decide
theorem test_decode_p1r : decode (.port [0b00000100, 0x5A]) = .ok .p1r ∧
    decode (.port [0b00000101, 0x5A]) = .ok .p1r := by decide
theorem test_decode_p1wCmd : decode (.port [0b00000110, 0x5A]) = .ok (.p1wCmd 0x5A) := by decide
theorem test_decode_p1wParam : decode (.port [0b00000111, 0x5A]) = .ok (.p1wParam 0x5A) := by decide
theorem test_decode_p2r : decode (.port [0b00001000, 0x5A]) = .ok .p2r ∧
    decode (.port [0b00001001, 0x5A]) = .ok .p2r := by decide
theorem test_decode_p2wNop : decode (.port [0b00001010, 0x5A]) = .ok (.p2wNop 0x5A) := by decide
theorem test_decode_p2wParam : decode (.port [0b00001011, 0x5A]) = .ok (.p2wParam 0x5A) := by decide
theorem test_decode_p3r : decode (.port [0b00001100, 0x5A]) = .ok .p3r ∧
    decode (.port [0b00001101, 0x5A]) = .ok .p3r := by decide
theorem test_decode_p3wReq : decode (.port [0b00001110, 0x5A]) = .ok (.p3wReq 0x5A) := by decide
theorem test_decode_p3wMask : decode (.port [0b00001111, 0x5A]) = .ok (.p3wMask 0x5A) := by decide
theorem test_decode_sync : decode (.command [0b00000000]) = .ok .sync := by decide
theorem test_decode_getstat : decode (.command [0b00000001]) = .ok .getstat := by decide
theorem test_decode_setloc : decode (.command [0b00000010]) = .ok .setloc := by decide
theorem test_decode_play : decode (.command [0b00000011]) = .ok .play := by decide
theorem test_decode_forward : decode (.command [0b00000100]) = .ok .forward := by decide
theorem test_decode_backward : decode (.command [0b00000101]) = .ok .backward := by decide
theorem test_decode_readN : decode (.command [0b00000110]) = .ok .readN := by decide
theorem test_decode_standby : decode (.command [0b00000111]) = .ok .standby := by decide
theorem test_decode_stop : decode (.command [0b00001000]) = .ok .stop := by decide
theorem test_decode_pause : decode (.command [0b00001001]) = .ok .pause := by decide
theorem test_decode_init : decode (.command [0b00001010]) = .ok .init := by decide
theorem test_decode_mute : decode (.command [0b00001011]) = .ok .mute := by decide
theorem test_decode_demute : decode (.command [0b00001100]) = .ok .demute := by decide
theorem test_decode_setfilter : decode (.command [0b00001101]) = .ok .setfilter := by decide
theorem test_decode_setmode : decode (.command [0b00001110]) = .ok .setmode := by decide
theorem test_decode_getparam : decode (.command [0b00001111]) = .ok .getparam := by decide
theorem test_decode_getlocL : decode (.command [0b00010000]) = .ok .getlocL := by decide
theorem test_decode_getlocP : decode (.command [0b00010001]) = .ok .getlocP := by decide
theorem test_decode_setSession : decode (.command [0b00010010]) = .ok .setSession := by decide
theorem test_decode_getTN : decode (.command [0b00010011]) = .ok .getTN := by decide
theorem test_decode_getTD : decode (.command [0b00010100]) = .ok .getTD := by decide
theorem test_decode_seekL : decode (.command [0b00010101]) = .ok .seekL := by decide
theorem test_decode_seekP : decode (.command [0b00010110]) = .ok .seekP := by decide
theorem test_decode_setClock : decode (.command [0b00010111]) = .ok .setClock := by decide
theorem test_decode_getClock : decode (.command [0b00011000]) = .ok .getClock := by decide
theorem test_decode_test : decode (.command [0b00011001]) = .ok .test := by decide
theorem test_decode_getID : decode (.command [0b00011010]) = .ok .getID := by decide
theorem test_decode_readS : decode (.command [0b00011011]) = .ok .readS := by decide
theorem test_decode_reset : decode (.command [0b00011100]) = .ok .reset := by decide
theorem test_decode_getQ : decode (.command [0b00011101]) = .ok .getQ := by decide
theorem test_decode_readTOC : decode (.command [0b00011110]) = .ok .readTOC := by decide
theorem test_decode_invalid1F : decode (.command [0b00011111]) = .ok .invalid1F := by decide
theorem test_decode_invalid20 : decode (.command [0b00100000]) = .ok (.invalid20 0b00100000) ∧
    decode (.command [0b00111111]) = .ok (.invalid20 0b00111111) := by decide
theorem test_decode_invalid40 : decode (.command [0b01000000]) = .ok (.invalid40 0b01000000) ∧
    decode (.command [0b01111111]) = .ok (.invalid40 0b01111111) := by decide
theorem test_decode_invalid80 : decode (.command [0b10000000]) = .ok (.invalid80 0b10000000) ∧
    decode (.command [0b11111111]) = .ok (.invalid80 0b11111111) := by decide
theorem test_decode_cmdExec : decode (.event [0b00000000] 9) = .ok (.cmdExec 9) := by decide
theorem test_decode_cmdSecond : decode (.event [0b00000001] 9) = .ok (.cmdSecond 9) := by decide
theorem test_decode_seekDone : decode (.event [0b00000010] 9) = .ok (.seekDone 9) := by decide
theorem test_decode_sectorRead : decode (.event [0b00000011] 9) = .ok (.sectorRead 9) := by decide
theorem test_decode_playSector : decode (.event [0b00000100] 9) = .ok (.playSector 9) := by decide
theorem test_decode_irqRecheck : decode (.event [0b00000101] 9) = .ok (.irqRecheck 9) := by decide
theorem test_decode_reject : decode (.port [0x10, 0]) = .error .portReserved ∧ decode (.port [0x00]) = .error .portLength ∧
    decode (.command []) = .error .commandLength ∧ decode (.command [0x02, 0x00]) = .error .commandLength ∧
    decode (.event [0x06] 0) = .error .eventReserved ∧ decode (.event [0x08] 0) = .error .eventReserved ∧
    decode (.event [] 0) = .error .eventLength := by decide
theorem test_table_words : decodeTableWord 4 0xC = some .p3r ∧ decodeTableWord 8 0x1A = some .getID ∧
    decodeTableWord 3 2 = some (.seekDone 0) ∧ decodeTableWord 3 6 = none ∧ decodeTableWord 16 0 = none := by decide

/-! ### The discs of 95_test_vectors.md, section 0 -/

/-- Position m:s:f. -/
def pos (m s f : Nat) : Msf := msfOfNats m s f

/-- The header bytes of `S(p)` in an image cut after byte 19. -/
def imageOf (m s f : Byte) : List Byte :=
  [0, 0, 0, 0, 0, 0, 0, 0, 0, 0, 0, 0, m, s, f, 0x02, 0x00, 0x00, 0x08, 0x00]

/-- `DISC_A` with two of its sectors. -/
def discA : Disc where
  present := true
  trackA := 0
  trackB := 1
  starts := [(1, pos 0 2 0), (2, pos 0 4 0), (0, pos 0 6 0)]
  sectors := [(pos 0 2 0, imageOf 0x00 0x02 0x00), (pos 0 4 0, imageOf 0x00 0x04 0x00)]
  audio := [(pos 0 2 0, [0xA0]), (pos 0 3 74, [0xA1])]

/-- `DISC_A12`. -/
def discA12 : Disc := { discA with trackB := 11 }

/-- `DISC_NONE`. -/
def discNone : Disc := { discA with present := false }

/-- The power-on state with a disc answering every query. -/
def inserted (d : Disc) : State := { State.reset with backend := { discs := [d], draws := 0 } }

/-- As `inserted`, spinning (`stat_p = 0x02`), with the given parameters latched. -/
def ready (d : Disc) (p : List Byte) : State := { inserted d with statP := 0x02, curParams := p }

/-- What a command's answer shows: the response, the latched code, `stat_p`. -/
def shown (r : StepResult) : Option (List Byte × BitVec 3 × Byte) :=
  match r with
  | .next t => some (t.rfifo.contents 16, t.latch.kind, t.statP)
  | _ => none

/-- A field of the next state. -/
def field {α : Type} (f : State → α) (r : StepResult) : Option α :=
  match r with
  | .next t => some (f t)
  | _ => none

/-! ### Commands (95_test_vectors.md, V50 to V94) -/

theorem test_sync : shown (exec .sync (ready discA [])) = some ([0x02], 3, 0x02) := by decide
theorem test_getstat : shown (exec .getstat { ready discA [] with statP := 0x03 }) = some ([0x03], 3, 0x02) := by decide
theorem test_getstat_count : shown (exec .getstat (ready discA [0x05])) = some ([0x13, 0x20], 5, 0x02) := by decide
theorem test_setloc : field (fun t => (t.target, t.seek.dist, t.seek.cls, t.seek.ticks)) (exec .setloc (ready discA [0x00, 0x02, 0x10])) =
    some (pos 0 2 10, 10, .trackJump, 185472) := by decide
theorem test_setloc_frame : shown (exec .setloc (ready discA [0x00, 0x02, 0x75])) = some ([0x13, 0x10], 5, 0x02) := by decide
theorem test_play : shown (exec .play (ready discA [])) = some ([0x82], 3, 0x82) := by decide
theorem test_play_track : field State.cur (exec .play (ready discA [0x02])) = some (pos 0 4 0) ∧
    shown (exec .play (ready discA [0x03])) = some ([0x13, 0x10], 5, 0x02) := by decide
theorem test_forward : shown (exec .forward (ready discA [])) = some ([0x02], 3, 0x02) := by decide
theorem test_backward : shown (exec .backward (ready discA [])) = some ([0x02], 3, 0x02) := by decide
theorem test_readN : shown (exec .readN (ready discA [])) = some ([0x22], 3, 0x22) := by decide
theorem test_readN_snap : field State.cur (exec .readN { ready discA [] with target := pos 0 4 0, setlocPending := true }) =
    some (pos 0 4 0) := by decide
theorem test_standby : shown (exec .standby (inserted discA)) = some ([0x02], 3, 0x02) := by decide
theorem test_stop : shown (exec .stop { ready discA [] with statP := 0x22 }) = some ([0x22], 3, 0x22) ∧
    field State.phase (exec .stop (ready discNone [])) = some .secondResponse := by decide
theorem test_pause : shown (exec .pause { ready discA [] with statP := 0x22 }) = some ([0x22], 3, 0x22) := by decide
theorem test_init : shown (exec .init { ready discA [] with statP := 0x22, mode := 0x80 }) = some ([0x22], 3, 0x22) ∧
    field State.mode (exec .init { ready discA [] with mode := 0x80 }) = some 0x00 := by decide
theorem test_mute : field State.muted (exec .mute (ready discA [])) = some true := by decide
theorem test_demute : field State.muted (exec .demute { ready discA [] with muted := true }) = some false := by decide
theorem test_setfilter : field (fun t => (t.filterFile, t.filterChannel)) (exec .setfilter (ready discA [0x01, 0x03])) =
    some (0x01, 0x03) := by decide
theorem test_setmode : field State.mode (exec .setmode (ready discA [0x80])) = some 0x80 := by decide
theorem test_setmode_count : shown (exec .setmode (ready discA [])) = some ([0x13, 0x20], 5, 0x02) := by decide
theorem test_getparam : shown (exec .getparam { ready discA [] with mode := 0x80, filterFile := 0x01, filterChannel := 0x03 }) =
    some ([0x02, 0x80, 0x00, 0x01, 0x03], 3, 0x02) := by decide
theorem test_getlocL : shown (exec .getlocL (ready discA [])) =
    some ([0x00, 0x00, 0x00, 0x00, 0x00, 0x00, 0x00, 0x00], 3, 0x02) := by decide
theorem test_getlocP : shown (exec .getlocP { ready discA [] with cur := pos 0 4 5 }) =
    some ([0x02, 0x01, 0x00, 0x00, 0x05, 0x00, 0x04, 0x05], 3, 0x02) := by decide
theorem test_getlocP_noDisc : shown (exec .getlocP (ready discNone [])) = some ([0x11, 0x80], 5, 0x02) := by decide
theorem test_setSession : shown (exec .setSession (ready discA [0x01])) = some ([0x02], 3, 0x02) ∧
    shown (exec .setSession (ready discA [0x02])) = some ([0x13, 0x10], 5, 0x02) := by decide
theorem test_getTN : shown (exec .getTN (ready discA12 [])) = some ([0x02, 0x01, 0x12], 3, 0x02) := by decide
theorem test_getTD : shown (exec .getTD (ready discA [0x01])) = some ([0x02, 0x00, 0x02], 3, 0x02) ∧
    shown (exec .getTD (ready discA [0x00])) = some ([0x02, 0x00, 0x06], 3, 0x02) := by decide
theorem test_getTD_errors : shown (exec .getTD (ready discA [0x03])) = some ([0x13, 0x10], 5, 0x02) ∧
    shown (exec .getTD (ready discA [0x1A])) = some ([0x13, 0x10], 5, 0x02) := by decide
theorem test_seekL : shown (exec .seekL (ready discA [])) = some ([0x42], 3, 0x42) ∧
    field (fun t => (t.drive, t.seek.ticks)) (exec .seekL (ready discA [])) = some (.seekingLogical, 33868) := by decide
theorem test_seekP : field State.drive (exec .seekP (ready discA [])) = some .seekingPhysical := by decide
theorem test_setClock : shown (exec .setClock (ready discA [1, 2, 3, 4, 5])) = some ([0x02], 3, 0x02) := by decide
theorem test_getClock : shown (exec .getClock (ready discA [])) = some ([0x02], 3, 0x02) := by decide
theorem test_test : shown (exec .test (ready discA [0x20])) = some ([0x94, 0x09, 0x19, 0xC0], 3, 0x02) ∧
    shown (exec .test (ready discA [0x21])) = some ([0x13, 0x10], 5, 0x02) := by decide
theorem test_getID : shown (exec .getID (inserted discA)) =
    some ([0x00, 0x02, 0x00, 0x00, 0x00, 0x53, 0x43, 0x45, 0x58], 2, 0x00) := by decide
theorem test_getID_noDisc : shown (exec .getID (inserted discNone)) = some ([0x11, 0x80], 5, 0x00) := by decide
theorem test_readS : shown (exec .readS (ready discA [])) = some ([0x22], 3, 0x22) := by decide
theorem test_reset : shown (exec .reset { ready discA [] with statP := 0x22, drive := .reading }) = some ([0x00], 3, 0x00) ∧
    field State.drive (exec .reset { ready discA [] with drive := .reading }) = some .idle := by decide
theorem test_getQ : shown (exec .getQ (ready discA [0, 0])) = some ([0x02], 3, 0x02) ∧
    shown (exec .getQ (ready discA [])) = some ([0x13, 0x20], 5, 0x02) := by decide
theorem test_readTOC : shown (exec .readTOC (inserted discA)) = some ([0x00], 3, 0x00) ∧
    shown (exec .readTOC (inserted discNone)) = some ([0x11, 0x80], 5, 0x00) := by decide
theorem test_invalid1F : shown (exec .invalid1F { ready discA [] with statP := 0x03 }) = some ([0x13, 0x40], 5, 0x03) := by decide
theorem test_invalid20 : shown (exec (.invalid20 0x3F) (ready discA [1, 2, 3])) = some ([0x13, 0x40], 5, 0x02) := by decide
theorem test_invalid40 : shown (exec (.invalid40 0x40) (ready discA [])) = some ([0x13, 0x40], 5, 0x02) := by decide
theorem test_invalid80 : shown (exec (.invalid80 0xFF) (inserted discA)) = some ([0x11, 0x40], 5, 0x00) := by decide

/-! ### Ports (V1 to V11, V126) -/

/-- The byte a read returned. -/
def readByte (r : StepResult) : Option Byte := (field (fun t => t.out.bus) r).bind id

/-- The state with a sector undrained from byte 100. -/
def undrained : State := { inserted discA with xfer := { buf := [(100, 0x77)], index := 100, size := 2352, ready := true } }

theorem test_p0r : readByte (exec .p0r State.reset) = some 0x10 := by decide
theorem test_p0w : field State.ctrl (exec (.p0w 0xFE) State.reset) = some 0xFE := by decide
theorem test_p1r : readByte (exec .p1r State.reset) = some 0x00 := by decide
theorem test_p1r_pop : readByte (exec .p1r { State.reset with rfifo := State.reset.rfifo.pushAll 16 [0x94, 0x09] }) =
    some 0x94 := by decide
theorem test_p1wCmd : field (fun t => t.queue.events) (exec (.p1wCmd 0x01) { State.reset with now := 100 }) =
    some [{ due := 2148, seq := 0, kind := .cmdExec, gen := 1 }] := by decide
theorem test_p1wParam : field (fun t => t.pfifo.contents 16) (exec (.p1wParam 0x11) State.reset) = some [0x11] := by decide
theorem test_p2r : readByte (exec .p2r undrained) = some 0x77 ∧ field (fun t => t.xfer.index) (exec .p2r undrained) = some 101 := by
  decide
theorem test_p2wNop : exec (.p2wNop 0x80) State.reset = .next State.reset := rfl
theorem test_p2wParam : field (fun t => t.pfifo.contents 16) (exec (.p2wParam 0x81)
    { State.reset with pfifo := State.reset.pfifo.push 16 0x80 }) = some [0x80, 0x81] := by decide
theorem test_p3r : readByte (exec .p3r { State.reset with latch := { pending := true, kind := 3 } }) = some 0x03 ∧
    readByte (exec .p3r State.reset) = some 0x00 := by decide
theorem test_p3wReq : field (fun t => t.xfer.ready) (exec (.p3wReq 0x00) undrained) = some false ∧
    field (fun t => t.pfifo.size) (exec (.p3wReq 0x40) { State.reset with pfifo := State.reset.pfifo.push 16 1 }) = some 0 := by
  decide
theorem test_p3wMask : field State.irqMask (exec (.p3wMask 0x05) State.reset) = some 0x05 := by decide

/-! ### Events (V20, V24, V100, V104, V106, V109, V111, V120) -/

/-- Reading, with `stat_p = 0x22`. -/
def reading (d : Disc) : State := { inserted d with drive := .reading, statP := 0x22 }

/-- Playing at 00:03:74 with AUTOPAUSE. -/
def playing : State := { inserted discA with drive := .playing, statP := 0x82, mode := 0x02, cur := pos 0 3 74 }

/-- An interrupt pending. -/
def held (s : State) : State := { s with latch := { pending := true, kind := 3 } }

theorem test_cmdExec : shown (exec (.cmdExec 1) { State.reset with phase := .executing, cmdGen := 1, curOp := 0x01 }) =
    some ([0x00], 3, 0x00) := by decide
theorem test_cmdSecond : shown (exec (.cmdSecond 1) { State.reset with
      phase := .secondResponse, cmdGen := 1, curOp := 0x08, statP := 0x22, drive := .stopping }) =
    some ([0x00], 2, 0x00) := by decide
theorem test_seekDone : field (fun t => (t.cur, t.statP, t.drive)) (exec (.seekDone 0) { inserted discA with
    drive := .seekingLogical, statP := 0x42, target := pos 0 4 0 }) = some (pos 0 4 0, 0x02, .idle) := by decide
theorem test_sectorRead : shown (exec (.sectorRead 0) (reading discA)) = some ([0x22], 1, 0x22) ∧
    field (fun t => (t.cur, t.lastHdr)) (exec (.sectorRead 0) (reading discA)) =
      some (pos 0 2 1, [0x00, 0x02, 0x00, 0x02, 0x00, 0x00, 0x08, 0x00]) := by decide
theorem test_sectorRead_fail : shown (exec (.sectorRead 0) { reading discA with cur := pos 0 2 1 }) =
    some ([0x03, 0x80], 5, 0x03) := by decide
theorem test_playSector : shown (exec (.playSector 0) playing) = some ([0x02], 2, 0x02) ∧
    field (fun t => (t.cur, t.drive, t.out.audio)) (exec (.playSector 0) playing) = some (pos 0 4 0, .idle, some [0xA1]) := by
  decide
theorem test_playSector_deferred : field (fun t => (t.cur, t.queue.events)) (exec (.playSector 0) (held playing)) =
    some (pos 0 3 74, [{ due := 256, seq := 0, kind := .playSector, gen := 0 }]) := by decide
theorem test_irqRecheck : field (fun t => t.out.line) (exec (.irqRecheck 0) (held State.reset)) = some true ∧
    field (fun t => t.out.line) (exec (.irqRecheck 0) { held State.reset with irqMask := 0x00 }) = some false := by decide

/-! ### Positions, seeks, FIFO (V3, V30 to V34, V112) -/

theorem test_lba : lba (pos 0 0 0) = -150 ∧ lba (pos 0 2 0) = 0 ∧ lba (pos 1 0 0) = 4350 ∧ lba (pos 99 59 74) = 449849 := by
  decide
theorem test_msfOfAbs : msfOfAbs 150 = pos 0 2 0 ∧ msfOfAbs 4499 = pos 0 59 74 ∧ msfOfLba 4350 = pos 1 0 0 := by decide
theorem test_advance : advance (pos 0 2 74) = pos 0 3 0 ∧ advance (pos 0 59 74) = pos 1 0 0 ∧
    advance (pos 99 59 74) = pos 0 0 0 := by decide
theorem test_seekTicks : [3, 4, 16, 17, 1000, 1001, 270950, 270951].map (seekTicks Config.standard) =
    [33868, 155472, 215472, 680760, 877360, 3486980, 30481880, 30481920] := by decide
theorem test_pfifo_saturates : (State.reset.pfifo.pushAll 16 (List.replicate 17 0x01)).size = 16 := by decide
theorem test_trackOf : (trackOf (pos 0 3 74) (inserted discA)).1 = 1 ∧ (trackOf (pos 0 4 0) (inserted discA)).1 = 2 ∧
    (trackOf (pos 0 0 0) (inserted discA)).1 = 1 := by decide

/-! ### Steps (V21, V22, V125, V130) -/

/-- Getstat issued at cycle 100, with a read of Port3 to come at a cycle. -/
def issued (t : Nat) : State := { State.reset with
  phase := .executing, cmdGen := 1, curOp := 0x01, now := 100
  queue := { events := [{ due := 2148, seq := 0, kind := .cmdExec, gen := 1 }], nextSeq := 1 }
  inputs := [readPort Config.standard t 3] }

theorem test_step_access_first : field (fun t => (t.out.bus, t.now, t.phase)) (step (issued 2147)) =
    some (some 0x00, 2147, .executing) := by decide
theorem test_step_event_first : field (fun t => (t.out.bus, t.now, t.phase, t.latch.kind)) (step (issued 2148)) =
    some (none, 2148, .waitingIrq, 3) := by decide
theorem test_step_idle : step State.reset = .next State.reset := rfl
theorem test_step_outside : step { State.reset with inputs := [readPort Config.standard 5 4] } =
    .fault (.noSuchPort 0x1F801804) := rfl
theorem test_fetchWord_command : shown (step (State.reset.withFetchWord 8 0x02)) = some ([0x00], 3, 0x00) := by decide
theorem test_fetchWord_port : readByte (step (State.reset.withFetchWord 4 0x0)) = some 0x10 := by decide
theorem test_fetchWord_event : step (State.reset.withFetchWord 3 2) = .next { State.reset with
    inputs := [.tick 0] } := rfl

/-! ### Witnesses: concrete states and operands that meet the hypotheses of each statement, clause by clause -/

theorem witness_decodeOfEncode : (Instr.invalid20 0x20).wf = true ∧ (Instr.invalid20 0x3F).wf = true ∧
    (Instr.invalid40 0x40).wf = true ∧ (Instr.invalid40 0x7F).wf = true ∧ (Instr.invalid80 0xFF).wf = true ∧
    (Instr.p0w 0xFF).wf = true := by decide

theorem witness_decoderYieldsWellFormed : decode (.port [0x06, 0x19]) = .ok (.p1wCmd 0x19) ∧
    decode (.command [0xFF]) = .ok (.invalid80 0xFF) ∧ decode (.event [0x05] 3) = .ok (.irqRecheck 3) := by decide

theorem witness_bcdRoundTrip : 99 < 100 ∧ validBcd 0x99 = true ∧ validBcd 0x00 = true := by decide

/-- Reading and running Getstat: a sector event and a command event pending, a host step after both. -/
def live : State := { reading discA with
  driveGen := 2, phase := .executing, cmdGen := 1, curOp := 0x01, now := 100
  queued := { valid := true, op := 0x02, params := [0x00, 0x02, 0x10] }
  xfer := { buf := [(3, 0x77)], index := 3, size := 2352, ready := true }
  queue := {
    events := [{ due := 500, seq := 3, kind := .sectorRead, gen := 2 }, { due := 500, seq := 4, kind := .cmdExec, gen := 1 },
      { due := 900, seq := 5, kind := .playSector, gen := 1 }]
    nextSeq := 6 }
  inputs := [.tick 700] }

theorem witness_stepRuns_event : live.inputs = .tick 700 :: [] ∧ live.now ≤ (HostStep.tick 700).cycle ∧
    live.queue.nextDue 700 = some { due := 500, seq := 3, kind := .sectorRead, gen := 2 } ∧
    decode (Event.encoded { due := 500, seq := 3, kind := .sectorRead, gen := 2 }) = .ok (.sectorRead 2) := by decide

theorem witness_stepRuns_access : (issued 2147).inputs =
      .access 2147 { addr := (issued 2147).cfg.cdBase + 3, bits := 8, write := none } :: [] ∧ 3 < 4 ∧
    (issued 2147).now ≤ 2147 ∧ (issued 2147).queue.nextDue 2147 = none ∧
    decode (accessEncoded 3 none (issued 2147).paramMode) = .ok .p3r := by decide

/-- The reset state with a host step to come. -/
def offered (h : HostStep) : State := { State.reset with inputs := [h], now := 4 }

theorem witness_stepWithout_stops : State.reset.inputs = [] ∧ (offered (.tick 3)).inputs = .tick 3 :: [] ∧
    (HostStep.tick 3).cycle < (offered (.tick 3)).now ∧
    0x1F8017FF < (offered (.tick 4)).cfg.cdBase ∧ (offered (.tick 4)).cfg.cdBase + 4 ≤ 0x1F801804 ∧
    (offered (.tick 4)).cfg.cdBase ≤ 0x1F801803 ∧ 0x1F801803 < (offered (.tick 4)).cfg.cdBase + 4 ∧ 16 ≠ 8 := by decide

theorem witness_stepWithout_runs : ∀ h ∈ [HostStep.tick 4, .powerOn 4, .access 4 { addr := 0x1F801800, bits := 16, write := none },
      .access 4 { addr := 0x1F801804, bits := 8, write := none }, .access 4 { addr := 0x1F8017FF, bits := 8, write := some 1 }],
    (offered h).inputs = h :: [] ∧ (offered h).now ≤ h.cycle ∧ (offered h).queue.nextDue h.cycle = none := by decide

theorem witness_nextDue : live.queue.nextDue 500 = some { due := 500, seq := 3, kind := .sectorRead, gen := 2 } ∧
    live.queue.nextDue 499 = none := by decide

theorem witness_powerOn : (offered (.powerOn 4)).inputs = .powerOn 4 :: [] ∧ (offered (.powerOn 4)).now ≤ 4 ∧
    (offered (.powerOn 4)).queue.nextDue 4 = none ∧ 1 ≤ (offered (.powerOn 4)).cfg.paramCap := by decide

/-- A ring of four bytes, wrapped round, holding 7 then 8. -/
def ring : Fifo := { buf := [8, 0, 0, 7], rd := 3, wr := 1, size := 2 }

theorem witness_fifoLaws : (ring.clear).wf 4 = true ∧ (ring.clear).size = 0 ∧ [(1 : Byte), 2, 3, 4].length ≤ 4 ∧
    [(1 : Byte), 2, 3, 4].length = 4 := by decide

theorem witness_fifoRefines : ring.wf 4 = true ∧ ring.size < 4 ∧ ring.contents 4 = 7 :: [8] ∧
    ({ ring with wr := 3, size := 4 } : Fifo).wf 4 = true ∧ ({ ring with wr := 3, size := 4 } : Fifo).size = 4 ∧
    ring.clear.wf 4 = true ∧ ring.clear.contents 4 = [] := by decide

theorem witness_parameterPushes : State.reset.pfifo.wf State.reset.cfg.paramCap = true ∧
    State.reset.pfifo.size < State.reset.cfg.paramCap := by decide

theorem witness_p1r : State.reset.rfifo.wf State.reset.cfg.respCap = true ∧
    State.reset.rfifo.contents State.reset.cfg.respCap = [] ∧
    (State.reset.rfifo.push 16 0x94).wf 16 = true ∧ (State.reset.rfifo.push 16 0x94).contents 16 = 0x94 :: [] := by decide

theorem witness_p2r : State.reset.xfer.ready = false ∧ undrained.xfer.ready = true := by decide

/-- A command answered and not acknowledged, with or without another behind it. -/
def waiting (behind : Bool) : State := { held State.reset with
  phase := .waitingIrq, queued := { valid := behind, op := 0x01, params := [] } }

theorem witness_p3r : State.reset.latch.pending = false ∧ State.reset.latch.kind = 0 ∧
    (held State.reset).latch.pending = true ∧
    (held State.reset).phase ≠ .waitingIrq ∧ (waiting false).latch.pending = true ∧ (waiting false).phase = .waitingIrq ∧
    (waiting false).queued.valid = false ∧ (waiting true).latch.pending = true ∧ (waiting true).phase = .waitingIrq ∧
    (waiting true).queued.valid = true := by decide

/-- A latched opcode about to run. -/
def latched (op : Byte) : State := { ready discA [] with phase := .executing, cmdGen := 1, curOp := op }

theorem witness_cmdExec : (latched 0x1E).phase = .executing ∧ (latched 0x1E).latch.pending = false ∧
    decode (.command [(latched 0x1E).curOp]) = .ok .readTOC ∧ (latched 0xFF).phase = .executing ∧
    (latched 0xFF).latch.pending = false ∧ decode (.command [(latched 0xFF).curOp]) = .ok (.invalid80 0xFF) := by decide

theorem witness_stale : 0 ≠ (latched 0x01).cmdGen ∧ State.reset.phase ≠ .executing ∧ State.reset.phase ≠ .secondResponse ∧
    1 ≠ State.reset.driveGen ∧ ¬ (State.reset.drive = .seekingLogical ∨ State.reset.drive = .seekingPhysical) ∧
    State.reset.drive ≠ .reading ∧ State.reset.drive ≠ .playing := by decide

/-- Seeking, with or without `SEEK_COMPLETE_IRQ`. -/
def seeking (irq : Bool) : State := { inserted discA with
  cfg := { Config.standard with seekCompleteIrq := irq }, drive := .seekingPhysical, statP := 0x42, target := pos 0 4 0 }

theorem witness_defers : (held (latched 0x01)).latch.pending = true ∧ (held (latched 0x01)).phase = .executing ∧
    (held { latched 0x08 with phase := .secondResponse }).phase = .secondResponse ∧ (held (reading discA)).drive = .reading ∧
    (held (seeking true)).latch.pending = true ∧ (held (seeking true)).drive = .seekingPhysical ∧
    (held (seeking true)).cfg.seekCompleteIrq = true := by decide

theorem witness_seconds : ∀ op ∈ [(0x08 : Byte), 0x09, 0x0A, 0x1E, 0x01],
    ({ latched op with phase := .secondResponse } : State).phase = .secondResponse ∧
    ({ latched op with phase := .secondResponse } : State).latch.pending = false ∧
    ({ latched op with phase := .secondResponse } : State).curOp = op := by decide

theorem witness_second_stop : (0x01 : Byte) ∉ [(0x08 : Byte), 0x09, 0x0A, 0x1E] := by decide

/-- Idle, with a command write at cycle 100 and a tick at 2148 to come. -/
def commanding : State := { inserted discA with inputs := [writePort Config.standard 100 1 0x0A, .tick 2148] }

theorem witness_answered : commanding.inputs = writePort commanding.cfg 100 1 0x0A :: .tick 2148 :: [] ∧ commanding.now ≤ 100 ∧
    100 + commanding.cfg.tCmd 0x0A ≤ 2148 ∧ commanding.paramMode = false ∧ commanding.phase = .idle ∧
    commanding.latch.pending = false ∧ commanding.queue.events = [] := by decide

theorem witness_positions : 449999 < 450000 ∧ absf (pos 99 59 74) = 449999 ∧ absf (pos 99 59 73) ≠ 449999 ∧
    (-150 ≤ (-150 : Int) ∧ (-150 : Int) ≤ 449849) ∧ (-150 ≤ (449849 : Int) ∧ (449849 : Int) ≤ 449849) ∧
    msfOfLba (-150) = pos 0 0 0 ∧ msfOfLba 449849 = pos 99 59 74 := by decide

theorem witness_seekLaws : seekDistance (pos 0 2 0) (pos 0 2 0) = 0 ∧ seekDistance (pos 0 2 0) (pos 0 4 0) = 150 ∧ 16 ≤ 17 ∧
    (17 ≤ 1000 ∧ seekClass 17 = seekClass 1000) ∧ (0 ≤ 0 ∧ seekClass 0 = seekClass 0) ∧
    (1001 ≤ 449999 ∧ seekClass 1001 = seekClass 449999) := by decide

theorem witness_seekBands : (1 ≤ 1 ∧ 1 ≤ 3) ∧ (1 ≤ 3 ∧ 3 ≤ 3) ∧ (4 ≤ 4 ∧ 4 ≤ 16) ∧ (4 ≤ 16 ∧ 16 ≤ 16) ∧
    (17 ≤ 17 ∧ 17 ≤ 1000) ∧ (17 ≤ 1000 ∧ 1000 ≤ 1000) ∧ 1001 ≤ 1001 := by decide

theorem witness_seekCompletes : (seeking false).drive = .seekingPhysical ∧ (seeking false).cfg.seekCompleteIrq = false ∧
    (seeking true).drive = .seekingPhysical ∧ (seeking true).cfg.seekCompleteIrq = true ∧
    (seeking true).latch.pending = false := by decide

theorem witness_counts : (0x00 : Byte).toNat ≤ 0x1E ∧ (0x1E : Byte).toNat ≤ 0x1E ∧ countOk 0x02 3 = true ∧
    countOk 0x03 1 = true ∧ countOk 0x19 1 = true ∧ countOk 0x17 16 = true := by decide

theorem witness_checks : (0x1E : Byte).toNat ≤ 0x1E ∧ decode (.command [0x1E]) = .ok .readTOC ∧
    countOk 0x1E (ready discNone [0x05]).curParams.length = false ∧ countOk 0x1E (ready discNone []).curParams.length = true ∧
    (ready discNone []).backend.present = false ∧
    (0x1E : Byte) ∈ [(0x03 : Byte), 0x06, 0x07, 0x11, 0x13, 0x14, 0x15, 0x16, 0x1A, 0x1B, 0x1E] := by decide

theorem witness_invalid : 0x1F ≤ (0x1F : Byte).toNat ∧ (latched 0x1F).phase = .executing ∧
    (latched 0x1F).latch.pending = false ∧ (latched 0x1F).curOp = 0x1F := by decide

theorem witness_setloc : (ready discA [0x99, 0x59, 0x74]).curParams =
      [bcd (pos 99 59 74).m.val, bcd (pos 99 59 74).s.val, bcd (pos 99 59 74).f.val] ∧
    (ready discA [0x00, 0x60, 0x00]).curParams = [0x00, 0x60, 0x00] ∧ ¬ unbcd 0x60 < 60 ∧
    (ready discA [0x0A, 0x00, 0x00]).curParams = [0x0A, 0x00, 0x00] ∧ ¬ validBcd 0x0A = true ∧
    (ready discA [0x00, 0x02]).curParams.length ≠ 3 := by decide

theorem witness_play : (ready discA []).curParams = [] ∧ (ready discA [0x00]).curParams = [0x00] ∧
    (ready discA []).backend.present = true ∧ (ready discA [0x00]).backend.present = true := by decide

theorem witness_playTrack : ∀ b ∈ [(0x1A : Byte), 0x01, 0x02, 0x03], (ready discA [b]).curParams = [b] ∧ b ≠ 0x00 ∧
    (ready discA [b]).backend.present = true ∧ (ready discA [b]).queried.backend.tracks = (1, 2) := by decide

theorem witness_playTrack_cases : validBcd 0x1A = false ∧ validBcd 0x01 = true ∧ validBcd 0x03 = true ∧ 1 ≤ unbcd 0x01 ∧
    unbcd 0x02 ≤ 2 ∧ 2 < unbcd 0x03 ∧ ({ discA with trackA := 1 } : Disc).present = true ∧
    (ready { discA with trackA := 1 } [0x01]).queried.backend.tracks = (2, 2) ∧ unbcd 0x01 < 2 := by decide

/-- The hypotheses of the statements of ReadN, ReadS, SeekL, SeekP, Standby, GetID, GetTN and ReadTOC. -/
theorem witness_noParameters : (ready discA []).curParams = [] ∧ (ready discA []).backend.present = true := by decide

theorem witness_seekDescriptor : (ready discA []).seek =
      (if ({ ready discA [] with setlocPending := true } : State).setlocPending = true then (ready discA []).seek
        else { (ready discA []).seek with dist := 0, cls := .none, ticks := (ready discA []).cfg.tSeekMin }) := by decide

theorem witness_registerCommands : (ready discA [0x01, 0x03]).curParams = [0x01, 0x03] ∧ (ready discA [0x80]).curParams = [0x80] := by
  decide

theorem witness_test : (ready discA [0x20, 0x05]).curParams = 0x20 :: [0x05] ∧ (ready discA [0x21]).curParams = 0x21 :: [] ∧
    (0x21 : Byte) ≠ 0x20 := by decide

theorem witness_tracks : (ready discA [0x1A]).backend.present = true ∧ (ready discA [0x1A]).queried.backend.tracks = (1, 2) ∧
    (ready discA [0x1A]).curParams = [0x1A] ∧ validBcd 0x1A = false ∧ validBcd 0x03 = true ∧ 2 < unbcd 0x03 ∧
    validBcd 0x00 = true ∧ unbcd 0x00 ≤ 2 ∧ unbcd 0x00 = 0 ∧ validBcd 0x02 = true ∧ unbcd 0x02 ≤ 2 ∧ 1 ≤ unbcd 0x02 ∧
    (ready { discA with trackA := 1 } [0x01]).queried.backend.tracks = (2, 2) ∧ unbcd 0x01 ≠ 0 ∧ unbcd 0x01 < 2 := by decide

theorem witness_getlocP : (ready discA []).curParams = [] ∧ (ready discA []).backend.present = true ∧
    trackOf (ready discA []).cur (ready discA []).queried = (1, { ready discA [] with backend := { discs := [discA], draws := 4 } }) ∧
    pos 0 0 0 = msfOfAbs (absf (ready discA []).cur - absf (pos 0 2 0)) := by decide

theorem witness_sector : (reading discA).drive = .reading ∧ (reading discA).latch.pending = false ∧
    (reading discA).backend.present = true ∧
    (reading discA).queried.backend.read (reading discA).cur = some (imageOf 0x00 0x02 0x00) := by decide

theorem witness_sector_fail : (reading discNone).drive = .reading ∧ (reading discNone).latch.pending = false ∧
    (reading discNone).backend.present = false ∧ ({ reading discA with cur := pos 0 2 1 } : State).latch.pending = false ∧
    ({ reading discA with cur := pos 0 2 1 } : State).queried.backend.read (pos 0 2 1) = none := by decide

/-- Playing at a position, with a mode and a report count. -/
def playAt (mode : Byte) (count : Nat) (p : Msf) : State := { playing with mode := mode, reportCount := count, cur := p }

theorem witness_play_quiet : (playAt 0x00 0 (pos 0 2 0)).drive = .playing ∧ (playAt 0x00 0 (pos 0 2 0)).backend.present = true ∧
    (playAt 0x00 0 (pos 0 2 0)).queried.backend.readAudio (pos 0 2 0) = some [0xA0] ∧
    (playAt 0x00 0 (pos 0 2 0)).mode.getLsbD 1 = false ∧ (playAt 0x00 0 (pos 0 2 0)).mode.getLsbD 2 = false := by decide

theorem witness_play_quiet_autopause : (playAt 0x06 0 (pos 0 2 0)).mode.getLsbD 1 = true ∧
    (endOfTrack (pos 0 2 0) (playAt 0x06 0 (pos 0 2 0)).queried.queried).1 = false ∧
    ((playAt 0x06 0 (pos 0 2 0)).reportCount + 1) % (playAt 0x06 0 (pos 0 2 0)).cfg.reportN ≠ 0 := by decide

theorem witness_play_ends : (playAt 0x02 0 (pos 0 3 74)).drive = .playing ∧ (playAt 0x02 0 (pos 0 3 74)).backend.present = true ∧
    (playAt 0x02 0 (pos 0 3 74)).queried.backend.readAudio (pos 0 3 74) = some [0xA1] ∧
    (playAt 0x02 0 (pos 0 3 74)).mode.getLsbD 1 = true ∧
    (endOfTrack (pos 0 3 74) (playAt 0x02 0 (pos 0 3 74)).queried.queried).1 = true ∧
    (playAt 0x02 0 (pos 0 3 74)).latch.pending = false ∧ (held (playAt 0x02 0 (pos 0 3 74))).latch.pending = true := by decide

theorem witness_play_report : (playAt 0x04 9 (pos 0 2 0)).mode.getLsbD 2 = true ∧ (playAt 0x04 9 (pos 0 2 0)).mode.getLsbD 1 = false ∧
    ((playAt 0x04 9 (pos 0 2 0)).reportCount + 1) % (playAt 0x04 9 (pos 0 2 0)).cfg.reportN = 0 ∧
    (playAt 0x06 9 (pos 0 2 0)).mode.getLsbD 1 = true ∧
    (endOfTrack (pos 0 2 0) (playAt 0x06 9 (pos 0 2 0)).queried.queried).1 = false ∧
    (playAt 0x04 9 (pos 0 2 0)).latch.pending = false ∧
    (playAt 0x04 9 (pos 0 2 0)).queried.backend.readAudio (pos 0 2 0) = some [0xA0] := by decide

theorem witness_play_fail : ({ playing with backend := { discs := [discNone], draws := 0 } } : State).drive = .playing ∧
    ({ playing with backend := { discs := [discNone], draws := 0 } } : State).backend.present = false ∧
    (playAt 0x00 0 (pos 0 2 1)).backend.present = true ∧
    (playAt 0x00 0 (pos 0 2 1)).queried.backend.readAudio (pos 0 2 1) = none := by decide

theorem witness_trackOf : (inserted discA).backend.tracks = (1, 2) := by decide

/-- A position of the first track, of two, and one of the last: the end of each. -/
theorem witness_endOfTrack : (∃ w, trackOf (pos 0 3 74) (inserted discA) = (1, w) ∧ w.backend.tracks = (1, 2) ∧ 1 < 2 ∧
      absf (advance (pos 0 3 74)) = absf (w.queried.backend.start 2)) ∧
    (∃ w, trackOf (pos 0 4 0) (inserted discA) = (2, w) ∧ w.backend.tracks = (1, 2) ∧ 2 ≤ 2 ∧
      absf (advance (pos 0 4 0)) ≠ absf (w.queried.backend.start 0)) :=
  ⟨⟨_, rfl, by decide⟩, ⟨_, rfl, by decide⟩⟩

/-- The starts the queries of `TrackOf` answer. -/
def discStarts (t : Nat) : Nat := absf (((inserted discA).backend.after (t - 1 + 1)).start t)

theorem witness_trackOf_starts : ∀ t, discStarts t = absf (((inserted discA).backend.after (t - 1 + 1)).start t) := fun _ => rfl

theorem witness_respond : State.reset.rfifo.wf State.reset.cfg.respCap = true ∧
    (List.replicate 16 (0x00 : Byte)).length ≤ State.reset.cfg.respCap := by decide

theorem witness_latchHeld : (∃ t, step (held live) = .next t) ∧ (held live).latch.pending = true := ⟨⟨_, rfl⟩, rfl⟩

theorem witness_steps : ∃ t, step live = .next t := ⟨_, rfl⟩

theorem witness_registersLegal : RegistersLegal live := by constructor <;> decide

theorem witness_queueOrdered : QueueOrdered live := by constructor <;> decide

theorem witness_commandSession : CommandSession live := by constructor <;> decide

theorem witness_driveSession : DriveSession live := by constructor <;> decide

theorem witness_completes : ∀ h rest, live.inputs = h :: rest → h.legal live := by
  intro h rest e
  cases e
  exact ⟨by decide, fun _ _ e => nomatch e⟩

theorem witness_completes_access : ∀ h rest, (issued 2147).inputs = h :: rest → h.legal (issued 2147) := by
  intro h rest e
  cases e
  refine ⟨by decide, fun t a e => ?_⟩
  cases e
  exact ⟨by decide, by decide, rfl⟩

theorem witness_parameters : live.drive.entered = true := by decide

theorem witness_inert : live.withoutInert = ({ live with ctrl := 0xFE, irqMask := 0xFF } : State).withoutInert ∧
    live ≠ ({ live with ctrl := 0xFE, irqMask := 0xFF } : State) := by decide

end Sys2Proof.Tests
end

section
/-! SUPPORT and the settlement of O59. A relation between a state and a later one, `ParametersKept` (00_scope.md R7,
10_state.md R29), shown once for every shared operation, then for every handler, event body and port operation, and so
for every step. -/

namespace Sys2Proof.Machine

/-! ### The relation -/

/-- The parameters are the same (00_scope.md R7), and neither OpeningShell nor SpinningUp was entered
(10_state.md R29). -/
structure ParametersKept (s t : State) : Prop where
  cfg : t.cfg = s.cfg
  drive : s.drive.entered = true → t.drive.entered = true

/-- If an outcome has a next state, the parameters are kept there. -/
def NextKeepsParameters (s : State) (r : StepResult) : Prop := ∀ t, r = .next t → ParametersKept s t

/-- A handler keeps the parameters of R7, whatever parameters the command was given. -/
def Handler.KeepsParameters (h : Handler) : Prop := ∀ p s, ParametersKept s (h p s).2

namespace ParametersKept

variable {s t u : State}

theorem same (cfg : t.cfg = s.cfg) (drive : t.drive = s.drive) : ParametersKept s t := ⟨cfg, fun h => drive ▸ h⟩

/-- The drive state that is entered is a named one, whatever it was before. -/
theorem entering (cfg : t.cfg = s.cfg) (drive : t.drive.entered = true) : ParametersKept s t :=
  ⟨cfg, fun _ => drive⟩

theorem unchanged (s : State) : ParametersKept s s := same rfl rfl

theorem trans (first : ParametersKept s t) (second : ParametersKept t u) : ParametersKept s u :=
  ⟨second.cfg.trans first.cfg, second.drive ∘ first.drive⟩

/-- Queries to the backend keep the parameters; `trackOf_state` and its like give the hypothesis. -/
theorem of_backend (h : ∃ b : Backend, t = { s with backend := b }) : ParametersKept s t := by
  obtain ⟨b, rfl⟩ := h
  exact same rfl rfl

theorem respond (bytes : List Byte) (type : IrqType) (h : ParametersKept s t) :
    ParametersKept s (t.respond bytes type) :=
  h.trans (same (t.respond_cfg bytes type) (t.respond_drive bytes type))

theorem toNext (h : ParametersKept s t) : NextKeepsParameters s (.next t) := by
  rintro _ ⟨⟩
  exact h

end ParametersKept

open ParametersKept

variable (s : State)

/-! ### Responses, commands and the acknowledgement -/

theorem defer_keepsParameters (kind : EventKind) (gen : Nat) : ParametersKept s (s.defer kind gen) := same rfl rfl

theorem ackIrq_keepsParameters : ParametersKept s s.ackIrq := by
  rw [State.ackIrq_eq]
  split_ifs <;> exact same rfl rfl

theorem issueCommand_keepsParameters (op : Byte) : ParametersKept s (issueCommand op s) := by
  rw [issueCommand_eq]
  split_ifs <;> exact same rfl rfl

theorem conclude_keepsParameters (a : Answer) : ParametersKept s (conclude (a, s)) := by
  rw [conclude_eq]
  have responded := (unchanged s).respond a.bytes a.irq
  split <;> exact responded.trans (same rfl rfl)

theorem settle_keepsParameters (r : Answer × State) : ParametersKept r.2 (settle r).2 := by
  rw [settle_eq]
  split_ifs <;> exact same rfl rfl

/-- The checks before a handler write nothing but the backend's draws. -/
theorem dispatch_keepsParameters (op : Byte) {h : Handler} (hk : h.KeepsParameters) :
    ParametersKept s (dispatch op h s).2 := by
  have handled (w : State) : ParametersKept w (settle (h s.curParams w)).2 :=
    (hk s.curParams w).trans (settle_keepsParameters _)
  have asked : ParametersKept s s.queried := same rfl rfl
  rw [dispatch_eq]
  split_ifs
  · exact asked.trans (handled s.queried)
  · exact asked
  · exact handled s
  · exact unchanged s

theorem runCommand_keepsParameters (op : Byte) {h : Handler} (hk : h.KeepsParameters) :
    ParametersKept s (runCommand op h s) :=
  (dispatch_keepsParameters s op hk).trans (conclude_keepsParameters _ _)

/-! ### The drive -/

theorem snapSeek_keepsParameters : ParametersKept s (snapSeek s) := same rfl rfl

theorem startPlay_keepsParameters : ParametersKept s (startPlay s) := entering rfl rfl

theorem beginRead_keepsParameters : ParametersKept s (beginRead s) := entering rfl rfl

theorem seekInPlace_keepsParameters : ParametersKept s (seekInPlace s) := by
  unfold seekInPlace
  split_ifs <;> exact same rfl rfl

/-- The drive state a seek starts in is the caller's: SeekL and SeekP give one of the two seeking states. -/
theorem startSeek_keepsParameters (k : DriveState) (hk : k.entered = true) : ParametersKept s (startSeek k s) :=
  (seekInPlace_keepsParameters s).trans (entering rfl hk)

theorem readFail_keepsParameters : ParametersKept s (readFail s) :=
  respond _ _ (entering rfl rfl)

theorem autoPause_keepsParameters : ParametersKept s (autoPause s) :=
  respond _ _ (entering rfl rfl)

theorem finishSeek_keepsParameters : ParametersKept s (finishSeek s) := by
  unfold finishSeek
  dsimp only
  split_ifs
  · exact respond _ _ (entering rfl rfl)
  · exact entering rfl rfl

theorem deliverSector_keepsParameters (gen : Nat) (image : List Byte) : ParametersKept s (deliverSector gen image s) :=
  same (by simp [deliverSector]) (by simp [deliverSector])

theorem audioOut_keepsParameters (a : Pcm) : ParametersKept s (audioOut a s) := by
  rw [audioOut_eq]
  exact same rfl rfl

/-- A second phase ends with the drive Idle, or, for ReadTOC, as it was. -/
theorem finish_keepsParameters (op : Byte) (t : State) (h : finish op s = some t) : ParametersKept s t := by
  unfold finish at h
  split at h <;> cases h
  · exact entering rfl rfl
  · exact entering rfl rfl
  · refine entering ?_ rfl
    unfold finishInit
    dsimp only
    split <;> rfl
  · exact same rfl rfl

/-! ### The handlers -/

/-- The handlers of the opcodes 0x00 to 0x1E, in order (30_encoding.md R81). -/
def handlerTable : List Handler := [
  handleSync, handleGetstat, handleSetloc, handlePlay, handleForward, handleBackward, handleReadN, handleStandby,
  handleStop, handlePause, handleInit, handleMute, handleDemute, handleSetfilter, handleSetmode, handleGetparam,
  handleGetlocL, handleGetlocP, handleSetSession, handleGetTN, handleGetTD, handleSeekL, handleSeekP, handleSetClock,
  handleGetClock, handleTest, handleGetID, handleReadS, handleReset, handleGetQ, handleReadTOC]

/-- The command table runs the handler of each opcode. -/
theorem commandTable_eq : commandTable =
    handlerTable.mapIdx (fun n h => fun s => .next (runCommand (BitVec.ofNat 8 n) h s)) := rfl

/-- The opcode dispatch runs the handler of the opcode or, where the table has none, the invalid-command path. -/
theorem dispatchOpcode_eq (op : Byte) : dispatchOpcode op s =
    match handlerTable[op.toNat]? with
    | some h => .next (runCommand op h s)
    | none => .next (runInvalid s) := by
  cases found : handlerTable[op.toNat]? with
  | some h => simp [dispatchOpcode, commandTable_eq, found]
  | none => exact dispatchOpcode_invalid op s (by simpa [handlerTable] using found)

theorem handleSetloc_keepsParameters : Handler.KeepsParameters handleSetloc := by
  intro p s
  unfold handleSetloc
  split_ifs <;> exact same rfl rfl

theorem playTrack_keepsParameters (t : Nat) : ParametersKept s (playTrack t s).2 := by
  unfold playTrack
  dsimp only
  split_ifs
  · exact same rfl rfl
  · refine .trans ?_ (startPlay_keepsParameters _)
    exact same rfl rfl

theorem handlePlay_keepsParameters : Handler.KeepsParameters handlePlay := by
  intro p s
  unfold handlePlay
  split_ifs
  · exact playTrack_keepsParameters s _
  · exact unchanged s
  · exact (snapSeek_keepsParameters s).trans (startPlay_keepsParameters _)

theorem handleReadN_keepsParameters : Handler.KeepsParameters handleReadN := fun _ s =>
  (snapSeek_keepsParameters s).trans (beginRead_keepsParameters _)

theorem handleGetlocP_keepsParameters : Handler.KeepsParameters handleGetlocP := fun _ s =>
  (of_backend (trackOf_state s.cur s)).trans (same rfl rfl)

theorem handleSetSession_keepsParameters : Handler.KeepsParameters handleSetSession := by
  intro p s
  unfold handleSetSession
  split_ifs <;> exact unchanged s

theorem handleGetTD_keepsParameters : Handler.KeepsParameters handleGetTD := by
  intro p s
  unfold handleGetTD trackStartAnswer
  dsimp only
  split_ifs <;> exact same rfl rfl

theorem handleTest_keepsParameters : Handler.KeepsParameters handleTest := by
  intro p s
  unfold handleTest
  split_ifs <;> exact unchanged s

/-- No handler writes a parameter. The drive states a handler enters are Stopping, Pausing, Resetting, Reading, Playing,
the two seeking states and Idle. -/
theorem handlerTable_keepsParameters : ∀ h ∈ handlerTable, Handler.KeepsParameters h := by
  simp only [handlerTable, List.forall_mem_cons]
  exact ⟨
    -- Sync, Getstat, Setloc, Play, Forward, Backward
    fun _ => unchanged, fun _ => unchanged, handleSetloc_keepsParameters, handlePlay_keepsParameters,
    fun _ => unchanged, fun _ => unchanged,
    -- ReadN, Standby
    handleReadN_keepsParameters, fun _ _ => same rfl rfl,
    -- Stop, Pause, Init
    fun _ _ => entering rfl rfl, fun _ _ => entering rfl rfl, fun _ _ => entering rfl rfl,
    -- Mute, Demute, Setfilter, Setmode
    fun _ _ => same rfl rfl, fun _ _ => same rfl rfl, fun _ _ => same rfl rfl, fun _ _ => same rfl rfl,
    -- Getparam, GetlocL, GetlocP
    fun _ => unchanged, fun _ => unchanged, handleGetlocP_keepsParameters,
    -- SetSession, GetTN, GetTD
    handleSetSession_keepsParameters, fun _ _ => same rfl rfl, handleGetTD_keepsParameters,
    -- SeekL, SeekP
    fun _ s => startSeek_keepsParameters s .seekingLogical rfl,
    fun _ s => startSeek_keepsParameters s .seekingPhysical rfl,
    -- SetClock, GetClock, Test, GetID
    fun _ => unchanged, fun _ => unchanged, handleTest_keepsParameters, fun _ => unchanged,
    -- ReadS (the handler of ReadN), Reset, GetQ, ReadTOC
    handleReadN_keepsParameters, fun _ _ => entering rfl rfl, fun _ => unchanged, fun _ => unchanged,
    fun _ h => nomatch h⟩

theorem dispatchOpcode_keepsParameters (op : Byte) : NextKeepsParameters s (dispatchOpcode op s) := by
  rw [dispatchOpcode_eq]
  cases found : handlerTable[op.toNat]? with
  | some h =>
    have kept := handlerTable_keepsParameters h (List.mem_of_getElem? found)
    exact toNext (runCommand_keepsParameters s op kept)
  | none => exact toNext (conclude_keepsParameters s _)

/-! ### The event bodies -/

theorem cmdExec_keepsParameters (g : Nat) : NextKeepsParameters s (execCmdExec g s) := by
  unfold execCmdExec
  split_ifs
  · exact toNext (unchanged s)
  · exact toNext (defer_keepsParameters s _ g)
  · exact dispatchOpcode_keepsParameters s s.curOp

theorem cmdSecond_keepsParameters (g : Nat) : NextKeepsParameters s (execCmdSecond g s) := by
  unfold execCmdSecond
  split_ifs
  · exact toNext (unchanged s)
  · exact toNext (defer_keepsParameters s _ g)
  · cases finished : finish s.curOp s with
    | none => exact fun _ stopped => nomatch stopped
    | some t =>
      have answered := (finish_keepsParameters s s.curOp t finished).respond [t.statP] .complete
      exact toNext (.trans answered (same rfl rfl))

theorem seekDone_keepsParameters (g : Nat) : NextKeepsParameters s (execSeekDone g s) := by
  unfold execSeekDone
  split_ifs
  · exact toNext (unchanged s)
  · exact toNext (defer_keepsParameters s _ g)
  · exact toNext (finishSeek_keepsParameters s)

theorem sectorRead_keepsParameters (g : Nat) : NextKeepsParameters s (execSectorRead g s) := by
  have asked : ParametersKept s s.askSector.2 := of_backend s.askSector_state
  unfold execSectorRead
  split_ifs
  · exact toNext (unchanged s)
  · exact toNext (defer_keepsParameters s _ g)
  · cases s.askSector.1 with
    | none => exact toNext (asked.trans (readFail_keepsParameters _))
    | some image => exact toNext (asked.trans (deliverSector_keepsParameters _ g image))

/-- A play sector once it is output, the position and the report count moved on (44_sector_pipeline.md R266). -/
def playedSector (a : Pcm) (s : State) : State :=
  { audioOut a s with
    cur := advance (audioOut a s).cur
    reportCount := ((audioOut a s).reportCount + 1) % (audioOut a s).cfg.reportN }

/-- The play sector with the report that follows it, if it is due (44_sector_pipeline.md R266, R270). -/
def reportedSector (a : Pcm) (report : Bool) (s : State) : State :=
  if report then
    (trackOf s.cur (playedSector a s)).2.respond
      (reportBytes (playedSector a s).statP (trackOf s.cur (playedSector a s)).1 s.cur) .dataReady
  else playedSector a s

/-- After its output a play sector ends the track, or is reported if that is due and schedules the next. -/
theorem playOn_eq (g : Nat) (a : Pcm) (ended report : Bool) : playOn g a ended report s =
    if ended = true then autoPause (playedSector a s)
    else (reportedSector a report s).schedule (reportedSector a report s).cfg.sectorPeriod1x .playSector g := rfl

theorem playedSector_keepsParameters (a : Pcm) : ParametersKept s (playedSector a s) :=
  (audioOut_keepsParameters s a).trans (same rfl rfl)

theorem reportedSector_keepsParameters (a : Pcm) (report : Bool) : ParametersKept s (reportedSector a report s) := by
  have played := playedSector_keepsParameters s a
  unfold reportedSector
  split_ifs
  · exact (played.trans (of_backend (trackOf_state _ _))).respond _ _
  · exact played

/-- A play sector leaves the drive Playing, or Idle at the end of a track. -/
theorem playOn_keepsParameters (g : Nat) (a : Pcm) (ended report : Bool) :
    ParametersKept s (playOn g a ended report s) := by
  rw [playOn_eq]
  split_ifs
  · exact (playedSector_keepsParameters s a).trans (autoPause_keepsParameters _)
  · exact (reportedSector_keepsParameters s a report).trans (same rfl rfl)

theorem playSectorLive_keepsParameters (g : Nat) : ParametersKept s (playSectorLive g s) := by
  have asked : ParametersKept s s.askAudio.2 := of_backend s.askAudio_state
  have tracked : ParametersKept s (autoPauseDue s.askAudio.2).2 := asked.trans (of_backend (autoPauseDue_state _))
  unfold playSectorLive
  cases s.askAudio.1 with
  | none =>
    dsimp only
    split_ifs
    · exact asked.trans (defer_keepsParameters _ _ g)
    · exact asked.trans (readFail_keepsParameters _)
  | some a =>
    dsimp only
    split_ifs
    · exact tracked.trans (defer_keepsParameters _ _ g)
    · exact tracked.trans (playOn_keepsParameters _ g a _ _)

theorem playSector_keepsParameters (g : Nat) : NextKeepsParameters s (execPlaySector g s) := by
  unfold execPlaySector
  split_ifs
  · exact toNext (unchanged s)
  · exact toNext (playSectorLive_keepsParameters s g)

theorem irqRecheck_keepsParameters (g : Nat) : NextKeepsParameters s (execIrqRecheck g s) := by
  unfold execIrqRecheck
  split_ifs
  · exact toNext (same (s.signal_cfg _) (s.signal_drive _))
  · exact toNext (unchanged s)

theorem event_keepsParameters (e : Event) : NextKeepsParameters s (exec e.instr s) := by
  obtain ⟨due, seq, kind, gen⟩ := e
  cases kind with
  | cmdExec => exact cmdExec_keepsParameters s gen
  | cmdSecond => exact cmdSecond_keepsParameters s gen
  | seekDone => exact seekDone_keepsParameters s gen
  | sectorRead => exact sectorRead_keepsParameters s gen
  | playSector => exact playSector_keepsParameters s gen
  | irqRecheck => exact irqRecheck_keepsParameters s gen

/-! ### The port operations -/

theorem p2r_keepsParameters : NextKeepsParameters s (execP2r s) := by
  unfold execP2r
  split_ifs <;> exact toNext (same rfl rfl)

theorem p3r_keepsParameters : NextKeepsParameters s (execP3r s) := by
  have acknowledged : ParametersKept s (if s.latch.pending then s.ackIrq else s) := by
    split_ifs
    · exact ackIrq_keepsParameters s
    · exact unchanged s
  exact toNext (acknowledged.trans (same rfl rfl))

theorem access_keepsParameters (port : Nat) (write : Option Byte) (mode : Bool) :
    NextKeepsParameters s (exec (accessInstr port write mode) s) := by
  match port, write, mode with
  | 0, none, _ => exact toNext (same rfl rfl)
  | 0, some _, _ => exact toNext (same rfl rfl)
  | 1, none, _ => exact toNext (same rfl rfl)
  | 1, some op, false => exact toNext (issueCommand_keepsParameters s op)
  | 1, some _, true => exact toNext (same rfl rfl)
  | 2, none, _ => exact p2r_keepsParameters s
  | 2, some _, false => exact toNext (unchanged s)
  | 2, some _, true => exact toNext (same rfl rfl)
  | _ + 3, none, _ => exact p3r_keepsParameters s
  | _ + 3, some _, false => exact toNext (same rfl rfl)
  | _ + 3, some _, true => exact toNext (same rfl rfl)

/-! ### The step -/

theorem step_keepsParameters (t : State) (h : step s = .next t) : ParametersKept s t := by
  rcases step_next_cases s t h with ⟨_, rfl⟩ | ⟨hd, rest, _, _, fired | ⟨_, ticked | poweredOn | accessed⟩⟩
  · exact same rfl rfl
  · obtain ⟨e, _, ran⟩ := fired
    have due : ParametersKept s (s.quiet.firing e) := same rfl rfl
    exact due.trans (event_keepsParameters _ e t ran)
  · obtain ⟨c, _, rfl⟩ := ticked
    exact same rfl rfl
  · obtain ⟨c, _, rfl⟩ := poweredOn
    exact entering rfl rfl
  · obtain ⟨c, a, _, _, _, _, ran⟩ := accessed
    have taken : ParametersKept s (s.quiet.taking c rest) := same rfl rfl
    exact taken.trans (access_keepsParameters _ _ _ _ t ran)

/-- Settles O59: a step is quiet, an event body, time passing, power-on or a port operation, and each of them keeps the
parameters and enters neither OpeningShell nor SpinningUp. -/
theorem stepKeepsParameters : Obligations.StepKeepsParameters := by
  intro s t h
  obtain ⟨cfg, drive⟩ := step_keepsParameters s t h
  exact ⟨cfg, drive⟩

end Sys2Proof.Machine
end

section
/-! SUPPORT and the settlements of O53 and O54. The facts about the event queue and the registers come first. Then a
relation between the state a body runs in and the state it leaves, `BodyKeeps`, is shown once for every shared operation,
then for every handler, event body and port operation, and so for every step: time stands still inside a body, and both
invariants of 10_state.md R42 are kept. -/

namespace Sys2Proof.Machine

/-! ### The event queue (45_irq_scheduler.md R282, R283) -/

/-- The least event is one of the list, and no event of the list is due earlier. -/
theorem leastEvent_due (es : List Event) : ∀ m, leastEvent es = some m → m ∈ es ∧ ∀ e ∈ es, m.due ≤ e.due := by
  induction es with
  | nil => simp [leastEvent]
  | cons a es ih =>
    intro m h
    cases least : leastEvent es with
    | none =>
      obtain rfl : es = [] := (leastEvent_eq_none es).mp least
      simp_all [leastEvent]
    | some b =>
      obtain ⟨mem, le⟩ := ih b least
      simp only [leastEvent, least] at h
      split_ifs at h with before
      all_goals
        obtain rfl := Option.some.inj h
        simp only [Event.before, Bool.or_eq_true, Bool.and_eq_true, decide_eq_true_eq, beq_iff_eq] at before
      · exact ⟨.tail _ mem, List.forall_mem_cons.mpr ⟨by omega, le⟩⟩
      · exact ⟨.head _, List.forall_mem_cons.mpr ⟨le_rfl, fun e he => by have := le e he; omega⟩⟩

/-- The event fired next is pending, due by the given cycle, and no pending event is due earlier. -/
theorem EventQueue.nextDue_some {q : EventQueue} {c : Nat} {e : Event} (h : q.nextDue c = some e) :
    e ∈ q.events ∧ e.due ≤ c ∧ ∀ o ∈ q.events, e.due ≤ o.due := by
  obtain ⟨mem, least⟩ := leastEvent_due _ e h
  simp only [List.mem_filter, decide_eq_true_eq] at mem least
  refine ⟨mem.1, mem.2, fun o ho => ?_⟩
  by_cases due : o.due ≤ c
  · exact least o ⟨ho, due⟩
  · omega

/-- When no event is fired, every pending event is due later. -/
theorem EventQueue.nextDue_none {q : EventQueue} {c : Nat} (h : q.nextDue c = none) : ∀ e ∈ q.events, c < e.due := by
  simpa [EventQueue.nextDue, leastEvent_eq_none] using h

variable {s t u : State}

namespace QueueOrdered

/-- Submitting an event keeps the queue ordered: it is due no earlier than now, and its sequence number is new. -/
theorem schedule (h : QueueOrdered s) (delta : Nat) (kind : EventKind) (gen : Nat) :
    QueueOrdered (s.schedule delta kind gen) where
  notOverdue := by simpa [or_imp, forall_and] using h.notOverdue
  submissionOrder := by simpa [List.pairwise_append] using ⟨h.submissionOrder, h.belowNext⟩
  belowNext := by simpa [or_imp, forall_and] using fun e he => Nat.lt_succ_of_lt (h.belowNext e he)

/-- The order of the queue is a matter of the queue and of the time. -/
theorem of_eq (h : QueueOrdered s) (queue : t.queue = s.queue) (now : t.now = s.now) : QueueOrdered t where
  notOverdue := by simpa only [queue, now] using h.notOverdue
  submissionOrder := by simpa only [queue] using h.submissionOrder
  belowNext := by simpa only [queue] using h.belowNext

/-- Firing the least event leaves no event overdue at the event's own cycle. -/
theorem firing (h : QueueOrdered s) {c : Nat} {e : Event} (due : s.queue.nextDue c = some e) :
    QueueOrdered (s.firing e) where
  notOverdue o ho := (EventQueue.nextDue_some due).2.2 o (List.mem_of_mem_erase ho)
  submissionOrder := h.submissionOrder.sublist List.erase_sublist
  belowNext o ho := h.belowNext o (List.mem_of_mem_erase ho)

/-- Time passes to a cycle by which no event is due. -/
theorem taking (h : QueueOrdered s) {c : Nat} (none : s.queue.nextDue c = none) (rest : List HostStep) :
    QueueOrdered (s.taking c rest) :=
  { h with notOverdue := fun e he => (EventQueue.nextDue_none none e he).le }

theorem powerOn (cfg : Config) (now : Nat) (inputs : List HostStep) (backend : Backend) :
    QueueOrdered (State.powerOn cfg now inputs backend) where
  notOverdue := by simp [State.powerOn]
  submissionOrder := .nil
  belowNext := by simp [State.powerOn]

end QueueOrdered

/-! ### The registers (10_state.md R24 to R38) -/

/-- A valid configuration: the capacities, the sector size and the report interval are not zero. -/
theorem Config.valid_sizes {c : Config} (h : c.valid = true) :
    1 ≤ c.paramCap ∧ 1 ≤ c.respCap ∧ 1 ≤ c.sectorBytes ∧ 1 ≤ c.reportN := by
  simp only [Config.valid, Bool.and_eq_true, decide_eq_true_eq] at h
  omega

/-- A seek takes time whatever its distance (42_seek.md R165, 45_irq_scheduler.md R282). -/
theorem seekTicks_pos {c : Config} (h : c.valid = true) (d : Nat) : 1 ≤ seekTicks c d := by
  simp only [Config.valid, Bool.and_eq_true, decide_eq_true_eq] at h
  unfold seekTicks
  split_ifs <;> omega

theorem Fifo.atReset_wf {cap : Nat} (h : 1 ≤ cap) : (Fifo.atReset cap).wf cap = true := by
  simp [Fifo.wf_iff, Fifo.atReset]
  omega

/-- Every interrupt type has one of the codes the latch may hold. -/
theorem IrqType.code_mem (type : IrqType) : type.code ∈ [0, 1, 2, 3, 5] := by cases type <;> decide

/-- Setting bits of `stat_p` that are not reserved. -/
theorem reserved_or {p m : Byte} (hp : p &&& 0x1C = 0) (hm : m &&& 0x1C = 0) : (p ||| m) &&& 0x1C = 0 := by
  rw [BitVec.and_or_distrib_right, hp, hm]
  rfl

/-- Clearing bits of `stat_p`. -/
theorem reserved_and {p : Byte} (hp : p &&& 0x1C = 0) (m : Byte) : (p &&& m) &&& 0x1C = 0 := by
  rw [BitVec.and_assoc, BitVec.and_comm m, ← BitVec.and_assoc, hp]
  exact BitVec.zero_and

/-- Setting some bits of `stat_p` and clearing others, as every change of what the drive does. -/
theorem reserved_or_and {p m : Byte} (hp : p &&& 0x1C = 0) (hm : m &&& 0x1C = 0) (n : Byte) :
    ((p ||| m) &&& n) &&& 0x1C = 0 := reserved_and (reserved_or hp hm) n

namespace RegistersLegal

theorem powerOn {cfg : Config} (valid : cfg.valid = true) (now : Nat) (inputs : List HostStep) (backend : Backend) :
    RegistersLegal (State.powerOn cfg now inputs backend) := by
  obtain ⟨paramCap, respCap, sectorBytes, reportN⟩ := Config.valid_sizes valid
  exact {
    cfgValid := valid
    paramFifo := Fifo.atReset_wf paramCap
    responseFifo := Fifo.atReset_wf respCap
    dataUndrained := nofun
    bufferBounds := ⟨le_rfl, Nat.zero_le _⟩
    bufferCanonical := Memory.wf_nil
    headerLength := rfl
    queuedWhileBusy := nofun
    waitingIsPending := nofun
    latchCode := ⟨fun _ => rfl, fun _ => rfl⟩
    latchKind := .head _
    statReserved := BitVec.zero_and
    paramCount := ⟨Nat.zero_le _, Nat.zero_le _⟩
    reportRange := reportN
    seekTakesTime := seekTicks_pos valid 0 }

/-- The latch of a raised interrupt holds one of the four named types. -/
theorem respond (h : RegistersLegal s) (bytes : List Byte) (type : IrqType) : RegistersLegal (s.respond bytes type) := by
  rw [State.respond_eq]
  exact { h with
    responseFifo := Fifo.pushAll_wf _ _ _ (Fifo.clear_wf _ _ h.responseFifo)
    waitingIsPending := fun _ => rfl
    latchCode := ⟨nofun, fun zero => absurd zero type.code_ne_zero⟩
    latchKind := type.code_mem }

/-- A busy phase may be entered, and WaitingIrq with an interrupt pending (10_state.md R42 I3, I4). -/
theorem enterPhase (h : RegistersLegal s) {p : Phase} (busy : p ≠ .idle)
    (pending : p = .waitingIrq → s.latch.pending = true) : RegistersLegal { s with phase := p } :=
  { h with queuedWhileBusy := fun _ => busy, waitingIsPending := pending }

theorem startCommand (h : RegistersLegal s) (op : Byte) {params : List Byte} (fits : params.length ≤ s.cfg.paramCap) :
    RegistersLegal (s.startCommand op params) :=
  { h with
    queuedWhileBusy := fun _ => nofun
    waitingIsPending := nofun
    paramCount := ⟨fits, h.paramCount.2⟩ }

end RegistersLegal

/-! ### The relation -/

/-- A state with the fields blank that neither invariant speaks of. -/
def State.watched (s : State) : State :=
  { s with
    ctrl := 0x00, irqMask := 0x00, mode := 0x00, drive := .idle, curOp := 0x00
    cur := initialPosition, target := initialPosition, setlocPending := false
    seek := { s.seek with dist := 0, cls := .none, startAt := 0, doneAt := 0 }
    filterFile := 0x00, filterChannel := 0x00, muted := false
    cmdGen := 0, driveGen := 0, inputs := [], backend := { discs := [], draws := 0 }, out := Output.silent }

theorem RegistersLegal.watched_iff (s : State) : RegistersLegal s.watched ↔ RegistersLegal s :=
  ⟨fun h => { h with }, fun h => { h with }⟩

/-- Between the state an event body or a port operation runs in and a state it leads to, no time passes, and both
invariants are kept. -/
structure BodyKeeps (s t : State) : Prop where
  now : t.now = s.now
  ordered : QueueOrdered s → QueueOrdered t
  legal : RegistersLegal s → RegistersLegal t

/-- If an outcome has a next state, the invariants are kept there. -/
def NextKeeps (s : State) (r : StepResult) : Prop := ∀ t, r = .next t → BodyKeeps s t

/-- A handler keeps the invariants, whatever parameters the command was given. -/
def Handler.KeepsInvariants (h : Handler) : Prop := ∀ p s, BodyKeeps s (h p s).2

namespace BodyKeeps

theorem unchanged (s : State) : BodyKeeps s s := ⟨rfl, id, id⟩

theorem trans (first : BodyKeeps s t) (second : BodyKeeps t u) : BodyKeeps s u where
  now := second.now.trans first.now
  ordered := second.ordered ∘ first.ordered
  legal := second.legal ∘ first.legal

/-- No event is submitted, and the registers stay legal. -/
theorem of_registers (now : t.now = s.now) (queue : t.queue = s.queue) (legal : RegistersLegal s → RegistersLegal t) :
    BodyKeeps s t := ⟨now, fun h => h.of_eq queue now, legal⟩

/-- One event is submitted, and the registers stay legal. -/
theorem submitting {delta : Nat} {kind : EventKind} {gen : Nat} (now : t.now = s.now)
    (queue : t.queue = (s.schedule delta kind gen).queue) (legal : RegistersLegal s → RegistersLegal t) :
    BodyKeeps s t := ⟨now, fun h => (h.schedule delta kind gen).of_eq queue now, legal⟩

/-- Nothing changes that an invariant speaks of. -/
theorem same (h : t.watched = s.watched) : BodyKeeps s t :=
  have now : t.watched.now = s.watched.now := congrArg State.now h
  have queue : t.watched.queue = s.watched.queue := congrArg State.queue h
  of_registers now queue fun legal =>
    (RegistersLegal.watched_iff t).mp (h ▸ (RegistersLegal.watched_iff s).mpr legal)

/-- Queries to the backend; `trackOf_state` and its like give the hypothesis. -/
theorem of_backend (h : ∃ b : Backend, t = { s with backend := b }) : BodyKeeps s t := by
  obtain ⟨b, rfl⟩ := h
  exact same rfl

theorem statClear (h : BodyKeeps s t) (mask : Byte) : BodyKeeps s (t.statClear mask) :=
  h.trans (of_registers rfl rfl fun legal => { legal with statReserved := reserved_and legal.statReserved _ })

theorem statSet (h : BodyKeeps s t) {mask : Byte} (free : mask &&& 0x1C = 0) : BodyKeeps s (t.statSet mask) :=
  h.trans (of_registers rfl rfl fun legal => { legal with statReserved := reserved_or legal.statReserved free })

theorem schedule (h : BodyKeeps s t) (delta : Nat) (kind : EventKind) (gen : Nat) :
    BodyKeeps s (t.schedule delta kind gen) :=
  h.trans (submitting rfl rfl fun legal => { legal with })

theorem respond (h : BodyKeeps s t) (bytes : List Byte) (type : IrqType) : BodyKeeps s (t.respond bytes type) :=
  h.trans (submitting (t.respond_now bytes type) (t.respond_queue bytes type) fun legal => legal.respond bytes type)

/-- The response that a command ends with, in the busy phase that follows it: the latch is pending there. -/
theorem respondInPhase (h : BodyKeeps s t) (bytes : List Byte) (type : IrqType) {p : Phase} (busy : p ≠ .idle) :
    BodyKeeps s { t.respond bytes type with phase := p } :=
  have pending : (t.respond bytes type).latch.pending = true := by simp
  (h.respond bytes type).trans (of_registers rfl rfl fun legal => legal.enterPhase busy fun _ => pending)

theorem startCommand (h : BodyKeeps s t) (op : Byte) {params : List Byte}
    (fits : RegistersLegal s → params.length ≤ t.cfg.paramCap) : BodyKeeps s (t.startCommand op params) where
  now := h.now
  ordered ordered := ((h.ordered ordered).schedule _ _ _).of_eq rfl rfl
  legal legal := (h.legal legal).startCommand op (fits legal)

theorem toNext (h : BodyKeeps s t) : NextKeeps s (.next t) := by
  rintro _ ⟨⟩
  exact h

end BodyKeeps

open BodyKeeps

variable (s : State)

/-! ### Responses, commands and the acknowledgement -/

theorem defer_keeps (kind : EventKind) (gen : Nat) : BodyKeeps s (s.defer kind gen) :=
  (unchanged s).schedule _ kind gen

/-- The latch is cleared together with the wait for it; a queued command leaves the queue as it starts. -/
theorem ackIrq_keeps : BodyKeeps s s.ackIrq := by
  rw [State.ackIrq_eq]
  split_ifs with waiting queued
  · refine startCommand ?_ _ fun legal => legal.paramCount.2
    refine of_registers rfl rfl fun legal => ?_
    exact { legal with
      queuedWhileBusy := nofun, waitingIsPending := nofun
      latchCode := ⟨fun _ => rfl, fun _ => rfl⟩, latchKind := .head _ }
  · refine of_registers rfl rfl fun legal => ?_
    exact { legal with
      queuedWhileBusy := fun valid => absurd valid queued, waitingIsPending := nofun
      latchCode := ⟨fun _ => rfl, fun _ => rfl⟩, latchKind := .head _ }
  · refine of_registers rfl rfl fun legal => ?_
    exact { legal with
      waitingIsPending := fun wait => absurd wait waiting
      latchCode := ⟨fun _ => rfl, fun _ => rfl⟩, latchKind := .head _ }

/-- The parameters of a command are the contents of `pfifo`, so there are no more than its capacity. -/
theorem issueCommand_keeps (op : Byte) : BodyKeeps s (issueCommand op s) := by
  have cleared : BodyKeeps s { s with pfifo := s.pfifo.clear } := of_registers rfl rfl fun legal =>
    { legal with paramFifo := Fifo.clear_wf _ _ legal.paramFifo }
  have fits (legal : RegistersLegal s) : (s.pfifo.contents s.cfg.paramCap).length ≤ s.cfg.paramCap := by
    obtain ⟨_, _, _, size, _⟩ := (Fifo.wf_iff _ _).mp legal.paramFifo
    rwa [Fifo.length_contents]
  rw [issueCommand_eq]
  split_ifs with idle
  · exact cleared.startCommand op fits
  · exact cleared
  · refine of_registers rfl rfl fun legal => ?_
    exact { cleared.legal legal with
      queuedWhileBusy := fun _ => idle
      paramCount := ⟨legal.paramCount.1, fits legal⟩ }

theorem conclude_keeps (a : Answer) : BodyKeeps s (conclude (a, s)) := by
  have responded {p : Phase} (busy : p ≠ .idle) : BodyKeeps s { s.respond a.bytes a.irq with phase := p } :=
    (unchanged s).respondInPhase _ _ busy
  rw [conclude_eq]
  split
  · exact schedule (responded (p := .secondResponse) nofun) _ _ _
  · exact responded nofun

theorem settle_keeps (r : Answer × State) : BodyKeeps r.2 (settle r).2 := by
  rw [settle_eq]
  split_ifs
  · exact (unchanged _).statClear _
  · exact unchanged _

theorem dispatch_keeps (op : Byte) {h : Handler} (hk : h.KeepsInvariants) : BodyKeeps s (dispatch op h s).2 := by
  have handled (w : State) : BodyKeeps w (settle (h s.curParams w)).2 := (hk s.curParams w).trans (settle_keeps _)
  have asked : BodyKeeps s s.queried := same rfl
  rw [dispatch_eq]
  split_ifs
  · exact asked.trans (handled s.queried)
  · exact asked
  · exact handled s
  · exact unchanged s

theorem runCommand_keeps (op : Byte) {h : Handler} (hk : h.KeepsInvariants) : BodyKeeps s (runCommand op h s) :=
  (dispatch_keeps s op hk).trans (conclude_keeps _ _)

/-! ### The drive -/

theorem snapSeek_keeps : BodyKeeps s (snapSeek s) :=
  (same rfl : BodyKeeps s { snapSeek s with statP := s.statP }).statClear _

theorem startPlay_keeps : BodyKeeps s (startPlay s) := submitting rfl rfl fun legal =>
  have ⟨_, _, _, reportN⟩ := Config.valid_sizes legal.cfgValid
  { legal with statReserved := reserved_or_and legal.statReserved rfl _, reportRange := reportN }

theorem beginRead_keeps : BodyKeeps s (beginRead s) := submitting rfl rfl fun legal =>
  { legal with statReserved := reserved_or_and legal.statReserved rfl _ }

theorem computeSeek_keeps (p : Msf) : BodyKeeps s (computeSeek p s) := of_registers rfl rfl fun legal =>
  { legal with seekTakesTime := seekTicks_pos legal.cfgValid _ }

theorem seekInPlace_keeps : BodyKeeps s (seekInPlace s) := by
  unfold seekInPlace
  split_ifs
  · exact unchanged s
  · exact of_registers rfl rfl fun legal => { legal with seekTakesTime := seekTicks_pos legal.cfgValid 0 }

theorem startSeek_keeps (k : DriveState) : BodyKeeps s (startSeek k s) :=
  (seekInPlace_keeps s).trans <| submitting rfl rfl fun legal =>
    { legal with statReserved := reserved_or_and legal.statReserved rfl _ }

/-- The drive reset empties the transfer buffer's window, but leaves its bytes (70_reset_and_hazards.md R331). -/
theorem resetDrive_keeps : BodyKeeps s (resetDrive s) := of_registers rfl rfl fun legal =>
  have ⟨_, _, _, reportN⟩ := Config.valid_sizes legal.cfgValid
  { legal with
    dataUndrained := nofun
    bufferBounds := ⟨le_rfl, Nat.zero_le _⟩
    headerLength := rfl
    reportRange := reportN
    seekTakesTime := seekTicks_pos legal.cfgValid 0 }

theorem readFail_keeps : BodyKeeps s (readFail s) := by
  refine respond ?_ _ _
  exact of_registers rfl rfl fun legal =>
    { legal with statReserved := reserved_or_and legal.statReserved rfl _ }

theorem autoPause_keeps : BodyKeeps s (autoPause s) := by
  refine respond ?_ _ _
  exact ((unchanged s).statClear _).trans (same rfl)

theorem finishSeek_keeps : BodyKeeps s (finishSeek s) := by
  have done : BodyKeeps s { s.statClear statSeeking with cur := s.target, drive := .idle } :=
    ((unchanged s).statClear _).trans (same rfl)
  unfold finishSeek
  dsimp only
  split_ifs
  · exact done.respond _ _
  · exact done

theorem deliverSector_keeps (gen : Nat) (image : List Byte) : BodyKeeps s (deliverSector gen image s) := by
  have loaded : BodyKeeps s { s with
      xfer := Xfer.holding s.cfg.sectorBytes image
      lastHdr := headerBytes s.cfg.sectorBytes image } := of_registers rfl rfl fun legal =>
    have ⟨_, _, sectorBytes, _⟩ := Config.valid_sizes legal.cfgValid
    { legal with
      dataUndrained := fun _ => sectorBytes
      bufferBounds := ⟨Nat.zero_le _, le_rfl⟩
      bufferCanonical := Xfer.holding_wf _ image
      headerLength := rfl }
  refine schedule ?_ _ _ _
  exact (loaded.respond [s.statP] .dataReady).trans (same rfl)

theorem finish_keeps (op : Byte) (t : State) (h : finish op s = some t) : BodyKeeps s t := by
  have idled (w : State) : BodyKeeps w { w with drive := .idle } := same rfl
  unfold finish at h
  split at h <;> cases h
  · exact .trans (.statClear (unchanged s) _) (idled _)
  · exact .trans (.statClear (unchanged s) _) (idled _)
  · refine .trans ?_ (idled _)
    have asked : BodyKeeps s (s.statClear (statReading ||| statSeeking ||| statPlaying)).queried :=
      .trans (.statClear (unchanged s) _) (same rfl)
    split_ifs
    · exact asked.statSet rfl
    · exact asked.statClear _
  · exact .statSet (unchanged s) rfl

/-! ### The handlers -/

theorem handleSetloc_keeps : Handler.KeepsInvariants handleSetloc := by
  intro p s
  unfold handleSetloc
  split_ifs
  · exact unchanged s
  · exact computeSeek_keeps s _
  · exact unchanged s

theorem playTrack_keeps (t : Nat) : BodyKeeps s (playTrack t s).2 := by
  have asked : BodyKeeps s s.queried := same rfl
  unfold playTrack
  dsimp only
  split_ifs
  · exact asked
  · refine .trans ?_ (startPlay_keeps _)
    exact (asked.trans (snapSeek_keeps _)).trans (same rfl)

theorem handlePlay_keeps : Handler.KeepsInvariants handlePlay := by
  intro p s
  unfold handlePlay
  split_ifs
  · exact playTrack_keeps s _
  · exact unchanged s
  · exact (snapSeek_keeps s).trans (startPlay_keeps _)

theorem handleReadN_keeps : Handler.KeepsInvariants handleReadN := fun _ s =>
  (snapSeek_keeps s).trans (beginRead_keeps _)

theorem handleInit_keeps : Handler.KeepsInvariants handleInit := fun _ s => (resetDrive_keeps s).trans (same rfl)

theorem handleReset_keeps : Handler.KeepsInvariants handleReset := fun _ s =>
  (resetDrive_keeps s).trans <| of_registers rfl rfl fun legal => { legal with statReserved := BitVec.zero_and }

theorem handleGetlocP_keeps : Handler.KeepsInvariants handleGetlocP := fun _ s =>
  (of_backend (trackOf_state s.cur s)).trans (same rfl)

theorem handleSetSession_keeps : Handler.KeepsInvariants handleSetSession := by
  intro p s
  unfold handleSetSession
  split_ifs <;> exact unchanged s

theorem handleGetTD_keeps : Handler.KeepsInvariants handleGetTD := by
  intro p s
  unfold handleGetTD trackStartAnswer
  dsimp only
  split_ifs <;> exact same rfl

theorem handleTest_keeps : Handler.KeepsInvariants handleTest := by
  intro p s
  unfold handleTest
  split_ifs <;> exact unchanged s

/-- Every handler keeps the invariants. Most write nothing that an invariant speaks of. -/
theorem handlerTable_keeps : ∀ h ∈ handlerTable, Handler.KeepsInvariants h := by
  simp only [handlerTable, List.forall_mem_cons]
  exact ⟨
    -- Sync, Getstat, Setloc, Play, Forward, Backward
    fun _ => unchanged, fun _ => unchanged, handleSetloc_keeps, handlePlay_keeps, fun _ => unchanged,
    fun _ => unchanged,
    -- ReadN, Standby
    handleReadN_keeps, fun _ s => (unchanged s).statSet rfl,
    -- Stop, Pause, Init
    fun _ _ => same rfl, fun _ _ => same rfl, handleInit_keeps,
    -- Mute, Demute, Setfilter, Setmode
    fun _ _ => same rfl, fun _ _ => same rfl, fun _ _ => same rfl, fun _ _ => same rfl,
    -- Getparam, GetlocL, GetlocP
    fun _ => unchanged, fun _ => unchanged, handleGetlocP_keeps,
    -- SetSession, GetTN, GetTD
    handleSetSession_keeps, fun _ _ => same rfl, handleGetTD_keeps,
    -- SeekL, SeekP
    fun _ s => startSeek_keeps s _, fun _ s => startSeek_keeps s _,
    -- SetClock, GetClock, Test, GetID
    fun _ => unchanged, fun _ => unchanged, handleTest_keeps, fun _ => unchanged,
    -- ReadS (the handler of ReadN), Reset, GetQ, ReadTOC
    handleReadN_keeps, handleReset_keeps, fun _ => unchanged, fun _ => unchanged,
    fun _ h => nomatch h⟩

theorem dispatchOpcode_keeps (op : Byte) : NextKeeps s (dispatchOpcode op s) := by
  rw [dispatchOpcode_eq]
  cases found : handlerTable[op.toNat]? with
  | some h => exact toNext (runCommand_keeps s op (handlerTable_keeps h (List.mem_of_getElem? found)))
  | none => exact toNext (conclude_keeps s _)

/-! ### The event bodies -/

theorem cmdExec_keeps (g : Nat) : NextKeeps s (execCmdExec g s) := by
  unfold execCmdExec
  split_ifs
  · exact toNext (unchanged s)
  · exact toNext (defer_keeps s _ g)
  · exact dispatchOpcode_keeps s s.curOp

theorem cmdSecond_keeps (g : Nat) : NextKeeps s (execCmdSecond g s) := by
  unfold execCmdSecond
  split_ifs
  · exact toNext (unchanged s)
  · exact toNext (defer_keeps s _ g)
  · cases finished : finish s.curOp s with
    | none => exact fun _ stopped => nomatch stopped
    | some t => exact toNext ((finish_keeps s s.curOp t finished).respondInPhase _ _ nofun)

theorem seekDone_keeps (g : Nat) : NextKeeps s (execSeekDone g s) := by
  unfold execSeekDone
  split_ifs
  · exact toNext (unchanged s)
  · exact toNext (defer_keeps s _ g)
  · exact toNext (finishSeek_keeps s)

theorem sectorRead_keeps (g : Nat) : NextKeeps s (execSectorRead g s) := by
  have asked : BodyKeeps s s.askSector.2 := of_backend s.askSector_state
  unfold execSectorRead
  split_ifs
  · exact toNext (unchanged s)
  · exact toNext (defer_keeps s _ g)
  · cases s.askSector.1 with
    | none => exact toNext (asked.trans (readFail_keeps _))
    | some image => exact toNext (asked.trans (deliverSector_keeps _ g image))

/-- The report count stays below the report interval, which is not zero. -/
theorem playedSector_keeps (a : Pcm) : BodyKeeps s (playedSector a s) := by
  have output : BodyKeeps s (audioOut a s) := by
    rw [audioOut_eq]
    exact same rfl
  refine output.trans (of_registers rfl rfl fun legal => ?_)
  obtain ⟨_, _, _, reportN⟩ := Config.valid_sizes legal.cfgValid
  exact { legal with reportRange := Nat.mod_lt _ reportN }

theorem reportedSector_keeps (a : Pcm) (report : Bool) : BodyKeeps s (reportedSector a report s) := by
  have played := playedSector_keeps s a
  unfold reportedSector
  split_ifs
  · exact (played.trans (of_backend (trackOf_state _ _))).respond _ _
  · exact played

theorem playOn_keeps (g : Nat) (a : Pcm) (ended report : Bool) : BodyKeeps s (playOn g a ended report s) := by
  rw [playOn_eq]
  split_ifs
  · exact (playedSector_keeps s a).trans (autoPause_keeps _)
  · exact (reportedSector_keeps s a report).schedule _ _ _

theorem playSectorLive_keeps (g : Nat) : BodyKeeps s (playSectorLive g s) := by
  have asked : BodyKeeps s s.askAudio.2 := of_backend s.askAudio_state
  have tracked : BodyKeeps s (autoPauseDue s.askAudio.2).2 := asked.trans (of_backend (autoPauseDue_state _))
  unfold playSectorLive
  cases s.askAudio.1 with
  | none =>
    dsimp only
    split_ifs
    · exact asked.trans (defer_keeps _ _ g)
    · exact asked.trans (readFail_keeps _)
  | some a =>
    dsimp only
    split_ifs
    · exact tracked.trans (defer_keeps _ _ g)
    · exact tracked.trans (playOn_keeps _ g a _ _)

theorem playSector_keeps (g : Nat) : NextKeeps s (execPlaySector g s) := by
  unfold execPlaySector
  split_ifs
  · exact toNext (unchanged s)
  · exact toNext (playSectorLive_keeps s g)

theorem irqRecheck_keeps (g : Nat) : NextKeeps s (execIrqRecheck g s) := by
  unfold execIrqRecheck
  split_ifs
  · rw [State.signal_eq]
    exact toNext (same rfl)
  · exact toNext (unchanged s)

theorem event_keeps (e : Event) : NextKeeps s (exec e.instr s) := by
  obtain ⟨due, seq, kind, gen⟩ := e
  cases kind with
  | cmdExec => exact cmdExec_keeps s gen
  | cmdSecond => exact cmdSecond_keeps s gen
  | seekDone => exact seekDone_keeps s gen
  | sectorRead => exact sectorRead_keeps s gen
  | playSector => exact playSector_keeps s gen
  | irqRecheck => exact irqRecheck_keeps s gen

/-! ### The port operations -/

theorem p1r_keeps : NextKeeps s (execP1r s) :=
  toNext <| of_registers rfl rfl fun legal => { legal with responseFifo := Fifo.pop_wf _ _ legal.responseFifo }

theorem pushParam_keeps (v : Byte) : BodyKeeps s (pushParam v s) := of_registers rfl rfl fun legal =>
  { legal with paramFifo := Fifo.push_wf _ _ v legal.paramFifo }

/-- The read that reaches the end of the data is the one that takes `data_ready` away (40_fifo_and_registers.md
R122). -/
theorem p2r_keeps : NextKeeps s (execP2r s) := by
  unfold execP2r
  split_ifs with ready
  · refine toNext (of_registers rfl rfl fun legal => ?_)
    have undrained : s.xfer.index < s.xfer.size := legal.dataUndrained ready
    exact { legal with
      dataUndrained := fun more => lt_of_le_of_ne undrained (by simpa using more)
      bufferBounds := ⟨undrained, legal.bufferBounds.2⟩ }
  · exact toNext (same rfl)

theorem p3r_keeps : NextKeeps s (execP3r s) := by
  have acknowledged : BodyKeeps s (if s.latch.pending then s.ackIrq else s) := by
    split_ifs
    · exact ackIrq_keeps s
    · exact unchanged s
  exact toNext (acknowledged.trans (same rfl))

theorem p3wReq_keeps (v : Byte) : NextKeeps s (execP3wReq v s) := by
  refine toNext (of_registers rfl rfl fun legal => ?_)
  exact { legal with
    dataUndrained := fun ready => of_decide_eq_true (Bool.and_elim_right ready)
    paramFifo := by
      dsimp only
      split_ifs
      · exact Fifo.clear_wf _ _ legal.paramFifo
      · exact legal.paramFifo }

theorem access_keeps (port : Nat) (write : Option Byte) (mode : Bool) :
    NextKeeps s (exec (accessInstr port write mode) s) := by
  match port, write, mode with
  | 0, none, _ => exact toNext (same rfl)
  | 0, some _, _ => exact toNext (same rfl)
  | 1, none, _ => exact p1r_keeps s
  | 1, some op, false => exact toNext (issueCommand_keeps s op)
  | 1, some v, true => exact toNext (pushParam_keeps s v)
  | 2, none, _ => exact p2r_keeps s
  | 2, some _, false => exact toNext (unchanged s)
  | 2, some v, true => exact toNext (pushParam_keeps s v)
  | _ + 3, none, _ => exact p3r_keeps s
  | _ + 3, some v, false => exact p3wReq_keeps s v
  | _ + 3, some _, true => exact toNext (same rfl)

/-! ### The step -/

/-- Settles O53: what the fetch does before a body leaves the registers alone, every body keeps them legal, and power-on
makes them legal in a valid configuration. -/
theorem stepKeepsRegistersLegal : Obligations.StepKeepsRegistersLegal := by
  intro s t legal h
  rcases step_next_cases s t h with ⟨_, rfl⟩ | ⟨hd, rest, _, _, fired | ⟨_, ticked | poweredOn | accessed⟩⟩
  · exact { legal with }
  · obtain ⟨e, _, ran⟩ := fired
    exact (event_keeps _ e t ran).legal { legal with }
  · obtain ⟨c, _, rfl⟩ := ticked
    exact { legal with }
  · obtain ⟨c, _, rfl⟩ := poweredOn
    exact .powerOn legal.cfgValid _ _ _
  · obtain ⟨c, a, _, _, _, _, ran⟩ := accessed
    exact (access_keeps _ _ _ _ t ran).legal { legal with }

/-- Settles O54: time moves only in the fetch, to the due cycle of the least event or, when none is due, to the host's
cycle; bodies only submit events. -/
theorem stepKeepsQueueOrdered : Obligations.StepKeepsQueueOrdered := by
  intro s t ordered h
  have quiet : QueueOrdered s.quiet := ordered.of_eq rfl rfl
  rcases step_next_cases s t h with
    ⟨_, rfl⟩ | ⟨hd, rest, _, ahead, fired | ⟨none, ticked | poweredOn | accessed⟩⟩
  · exact ⟨quiet, le_rfl⟩
  · obtain ⟨e, due, ran⟩ := fired
    have body := event_keeps _ e t ran
    have pending : e ∈ s.queue.events := (EventQueue.nextDue_some due).1
    exact ⟨body.ordered (quiet.firing due), (ordered.notOverdue e pending).trans_eq body.now.symm⟩
  · obtain ⟨c, rfl, rfl⟩ := ticked
    exact ⟨quiet.taking none rest, ahead⟩
  · obtain ⟨c, rfl, rfl⟩ := poweredOn
    exact ⟨.powerOn _ _ _ _, ahead⟩
  · obtain ⟨c, a, rfl, _, _, _, ran⟩ := accessed
    have body := access_keeps _ _ _ _ t ran
    exact ⟨body.ordered (quiet.taking none rest), ahead.trans_eq body.now.symm⟩

end Sys2Proof.Machine
end

section
/-! SUPPORT and the settlement of O60. Blanking the inert parts of the state (10_state.md R22, R23, R34) and running an
operation can be exchanged: for almost every operation exactly, so that the operation run on the blanked state gives the
blanked result. Only a seek's start, which records its cycles, and the writes of `ctrl` and `irq_mask` put something back
into the inert parts; what they give agrees once it is blanked. -/

namespace Sys2Proof.Machine

/-! ### The blanked state -/

/-- A result of a query or a handler whose state's inert parts are blank. -/
def blanked {α : Type} (r : α × State) : α × State := (r.1, r.2.withoutInert)

/-- A body's outcome does not depend on the inert parts of the state it runs in, but for the inert parts themselves. -/
def IgnoresInert (body : State → StepResult) : Prop :=
  ∀ s, withoutInert (body s.withoutInert) = withoutInert (body s)

/-- A handler's answer does not depend on the inert parts of the state, and its state only in its own inert parts. -/
def Handler.IgnoresInert (h : Handler) : Prop := ∀ p s, blanked (h p s.withoutInert) = blanked (h p s)

variable (s : State)

@[simp] theorem State.withoutInert_cfg : s.withoutInert.cfg = s.cfg := rfl
@[simp] theorem State.withoutInert_statP : s.withoutInert.statP = s.statP := rfl
@[simp] theorem State.withoutInert_phase : s.withoutInert.phase = s.phase := rfl
@[simp] theorem State.withoutInert_curOp : s.withoutInert.curOp = s.curOp := rfl
@[simp] theorem State.withoutInert_curParams : s.withoutInert.curParams = s.curParams := rfl
@[simp] theorem State.withoutInert_cur : s.withoutInert.cur = s.cur := rfl
@[simp] theorem State.withoutInert_latch : s.withoutInert.latch = s.latch := rfl
@[simp] theorem State.withoutInert_cmdGen : s.withoutInert.cmdGen = s.cmdGen := rfl
@[simp] theorem State.withoutInert_queue : s.withoutInert.queue = s.queue := rfl
@[simp] theorem State.withoutInert_now : s.withoutInert.now = s.now := rfl
@[simp] theorem State.withoutInert_inputs : s.withoutInert.inputs = s.inputs := rfl
@[simp] theorem State.withoutInert_backend : s.withoutInert.backend = s.backend := rfl

@[simp] theorem withoutInert_next : withoutInert (.next s) = .next s.withoutInert := rfl

/-- Blanking twice is blanking once. -/
@[simp] theorem State.withoutInert_withoutInert : s.withoutInert.withoutInert = s.withoutInert := by
  simp [State.withoutInert, BitVec.and_assoc]

/-- `ctrl[7:1]` does not matter to the port decode (10_state.md R22). -/
@[simp] theorem State.withoutInert_paramMode : s.withoutInert.paramMode = s.paramMode := by
  simp [State.paramMode, hasBit, State.withoutInert, BitVec.and_assoc]

/-- A type code reaches the low three bits of a byte only. -/
theorem setWidth_and_low (code : BitVec 3) : code.setWidth 8 &&& 0x07 = code.setWidth 8 := by
  revert code
  decide

/-- `irq_mask[7:3]` does not matter to whether a type is enabled (10_state.md R23). -/
@[simp] theorem State.withoutInert_irqEnabled (code : BitVec 3) :
    s.withoutInert.irqEnabled code = s.irqEnabled code := by
  unfold State.irqEnabled
  rw [show s.withoutInert.irqMask = 0x07 &&& s.irqMask from BitVec.and_comm _ _, ← BitVec.and_assoc, setWidth_and_low]

theorem IgnoresInert.of_exchange {body : State → StepResult}
    (h : ∀ s, body s.withoutInert = withoutInert (body s)) : IgnoresInert body := by
  intro s
  rw [h]
  cases body s <;> simp [withoutInert]

theorem IgnoresInert.of_next {f : State → State} (h : ∀ s, f s.withoutInert = (f s).withoutInert) :
    IgnoresInert fun s => .next (f s) := of_exchange fun s => congrArg Host.Outcome.next (h s)

theorem Handler.IgnoresInert.of_exchange {h : Handler}
    (e : ∀ p s, h p s.withoutInert = blanked (h p s)) : h.IgnoresInert := by
  intro p s
  simp [e, blanked]

/-! ### Shared operations -/

theorem signal_withoutInert (code : BitVec 3) : s.withoutInert.signal code = (s.signal code).withoutInert := by
  simp only [State.signal_eq, State.withoutInert_irqEnabled]
  rfl

theorem respond_withoutInert (bytes : List Byte) (type : IrqType) :
    s.withoutInert.respond bytes type = (s.respond bytes type).withoutInert := by
  simp only [State.respond_eq, State.withoutInert_irqEnabled]
  rfl

theorem ackIrq_withoutInert : s.withoutInert.ackIrq = s.ackIrq.withoutInert := by
  simp only [State.ackIrq_eq, apply_ite State.withoutInert]
  rfl

theorem issueCommand_withoutInert (op : Byte) :
    issueCommand op s.withoutInert = (issueCommand op s).withoutInert := by
  simp only [issueCommand_eq, apply_ite State.withoutInert]
  rfl

theorem conclude_blanked (r : Answer × State) : conclude (blanked r) = (conclude r).withoutInert := by
  obtain ⟨a, s⟩ := r
  simp only [blanked, conclude_eq, respond_withoutInert]
  split <;> rfl

theorem settle_blanked (r : Answer × State) : settle (blanked r) = blanked (settle r) := by
  simp only [settle_eq, blanked]
  split_ifs <;> rfl

/-! ### Queries -/

theorem askSector_withoutInert : s.withoutInert.askSector = blanked s.askSector := by
  simp only [State.askSector, apply_ite blanked]
  rfl

theorem askAudio_withoutInert : s.withoutInert.askAudio = blanked s.askAudio := by
  simp only [State.askAudio, apply_ite blanked]
  rfl

theorem trackScan_withoutInert (p : Msf) (n : Nat) : ∀ (t best : Nat) (s : State),
    trackScan p t n best s.withoutInert = blanked (trackScan p t n best s) := by
  induction n with
  | zero => exact fun _ _ _ => rfl
  | succ n ih => exact fun t best s => ih (t + 1) _ s.queried

theorem trackOf_withoutInert (p : Msf) : trackOf p s.withoutInert = blanked (trackOf p s) :=
  trackScan_withoutInert p _ _ _ s.queried

theorem endOfTrack_withoutInert (p : Msf) : endOfTrack p s.withoutInert = blanked (endOfTrack p s) := by
  simp only [endOfTrack, trackOf_withoutInert]
  rfl

theorem autoPauseDue_withoutInert : autoPauseDue s.withoutInert = blanked (autoPauseDue s) := by
  simp only [autoPauseDue, endOfTrack_withoutInert, apply_ite blanked]
  rfl

/-! ### The drive -/

theorem seekInPlace_withoutInert : seekInPlace s.withoutInert = (seekInPlace s).withoutInert := by
  simp only [seekInPlace, apply_ite State.withoutInert]
  rfl

/-- The start of a seek records its cycles, which nothing reads (10_state.md R34). -/
theorem startSeek_withoutInert (k : DriveState) :
    (startSeek k s.withoutInert).withoutInert = (startSeek k s).withoutInert := by
  unfold startSeek
  rw [seekInPlace_withoutInert]
  simp [State.withoutInert, State.schedule, State.statSet, State.statClear, BitVec.and_assoc]

theorem readFail_withoutInert : readFail s.withoutInert = (readFail s).withoutInert := by
  unfold readFail
  dsimp only
  rw [← respond_withoutInert]
  rfl

theorem autoPause_withoutInert : autoPause s.withoutInert = (autoPause s).withoutInert := by
  unfold autoPause
  dsimp only
  rw [← respond_withoutInert]
  rfl

theorem finishSeek_withoutInert : finishSeek s.withoutInert = (finishSeek s).withoutInert := by
  unfold finishSeek
  dsimp only
  rw [apply_ite State.withoutInert, ← respond_withoutInert]
  rfl

/-- Once a sector is delivered: the next position and the next event (44_sector_pipeline.md R262). -/
def State.sectorPassed (gen : Nat) (s : State) : State :=
  { s with cur := advance s.cur }.schedule (sectorPeriod s.cfg s.mode) .sectorRead gen

theorem deliverSector_eq (gen : Nat) (image : List Byte) : deliverSector gen image s =
    ({ s with
      xfer := Xfer.holding s.cfg.sectorBytes image
      lastHdr := headerBytes s.cfg.sectorBytes image }.respond [s.statP] .dataReady).sectorPassed gen := rfl

theorem deliverSector_withoutInert (gen : Nat) (image : List Byte) :
    deliverSector gen image s.withoutInert = (deliverSector gen image s).withoutInert := by
  rw [deliverSector_eq s]
  exact congrArg (State.sectorPassed gen) (respond_withoutInert { s with
    xfer := Xfer.holding s.cfg.sectorBytes image
    lastHdr := headerBytes s.cfg.sectorBytes image } [s.statP] .dataReady)

theorem playedSector_withoutInert (a : Pcm) : playedSector a s.withoutInert = (playedSector a s).withoutInert := by
  simp only [playedSector, audioOut_eq]
  rfl

theorem reportedSector_withoutInert (a : Pcm) (report : Bool) :
    reportedSector a report s.withoutInert = (reportedSector a report s).withoutInert := by
  simp only [reportedSector, playedSector_withoutInert, State.withoutInert_cur, trackOf_withoutInert, blanked,
    respond_withoutInert, apply_ite State.withoutInert]
  rfl

theorem playOn_withoutInert (g : Nat) (a : Pcm) (ended report : Bool) :
    playOn g a ended report s.withoutInert = (playOn g a ended report s).withoutInert := by
  simp only [playOn_eq, playedSector_withoutInert, autoPause_withoutInert, reportedSector_withoutInert,
    apply_ite State.withoutInert]
  rfl

theorem playSectorLive_withoutInert (g : Nat) :
    playSectorLive g s.withoutInert = (playSectorLive g s).withoutInert := by
  have deferred (t : State) : t.withoutInert.defer .playSector g = (t.defer .playSector g).withoutInert := rfl
  have due : reportDue s.withoutInert = reportDue s := rfl
  unfold playSectorLive
  rw [askAudio_withoutInert]
  cases audio : s.askAudio.1 with
  | none =>
    simp only [blanked, audio, State.withoutInert_latch, deferred, readFail_withoutInert,
      apply_ite State.withoutInert]
  | some a =>
    simp only [blanked, audio, autoPauseDue_withoutInert, due, State.withoutInert_latch, deferred,
      playOn_withoutInert, apply_ite State.withoutInert]

/-- The motor after Init: on exactly when a disc is present (43_commands.md R194). -/
def State.spinAsDisc (s : State) : State :=
  if s.askPresent.1 then s.askPresent.2.statSet statSpinning else s.askPresent.2.statClear statSpinning

theorem finishInit_eq : finishInit s =
    { (s.statClear (statReading ||| statSeeking ||| statPlaying)).spinAsDisc with drive := .idle } := rfl

theorem spinAsDisc_withoutInert : s.withoutInert.spinAsDisc = s.spinAsDisc.withoutInert := by
  simp only [State.spinAsDisc, apply_ite State.withoutInert]
  rfl

theorem finish_withoutInert (op : Byte) : finish op s.withoutInert = (finish op s).map State.withoutInert := by
  have spun : finishInit s.withoutInert = (finishInit s).withoutInert := by
    rw [finishInit_eq, finishInit_eq]
    exact congrArg (fun t : State => { t with drive := .idle }) (spinAsDisc_withoutInert (s.statClear _))
  unfold finish
  split
  · rfl
  · rfl
  · exact congrArg some spun
  · rfl
  · rfl

/-! ### The handlers -/

theorem handleSetloc_ignoresInert : Handler.IgnoresInert handleSetloc := .of_exchange fun p s => by
  simp only [handleSetloc, apply_ite blanked]
  rfl

theorem playTrack_withoutInert (t : Nat) : playTrack t s.withoutInert = blanked (playTrack t s) := by
  simp only [playTrack, apply_ite blanked]
  rfl

theorem handlePlay_ignoresInert : Handler.IgnoresInert handlePlay := .of_exchange fun p s => by
  simp only [handlePlay, playTrack_withoutInert, apply_ite blanked]
  rfl

theorem handleGetlocP_ignoresInert : Handler.IgnoresInert handleGetlocP := .of_exchange fun p s => by
  simp only [handleGetlocP, State.withoutInert_cur, trackOf_withoutInert]
  rfl

theorem handleSetSession_ignoresInert : Handler.IgnoresInert handleSetSession := .of_exchange fun p s => by
  simp only [handleSetSession, apply_ite blanked]
  rfl

theorem handleGetTD_ignoresInert : Handler.IgnoresInert handleGetTD := .of_exchange fun p s => by
  simp only [handleGetTD, trackStartAnswer, apply_ite blanked]
  rfl

theorem handleTest_ignoresInert : Handler.IgnoresInert handleTest := .of_exchange fun p s => by
  simp only [handleTest, apply_ite blanked]
  rfl

/-- The seek of SeekL or SeekP is answered with `stat_p`, which its inert parts do not reach. -/
theorem startSeek_answer_ignoresInert (k : DriveState) :
    blanked (statusAnswer (startSeek k s.withoutInert)) = blanked (statusAnswer (startSeek k s)) := by
  have same := startSeek_withoutInert s k
  have stat : (startSeek k s.withoutInert).withoutInert.statP = (startSeek k s).withoutInert.statP :=
    congrArg State.statP same
  simp only [State.withoutInert_statP] at stat
  simp only [blanked, statusAnswer, same, stat]

/-- Every handler, given the blanked state, answers the same; all but SeekL and SeekP leave the blanked result. -/
theorem handlerTable_ignoresInert : ∀ h ∈ handlerTable, Handler.IgnoresInert h := by
  have plain {h : Handler} (e : ∀ p s, h p s.withoutInert = blanked (h p s)) : h.IgnoresInert := .of_exchange e
  simp only [handlerTable, List.forall_mem_cons]
  exact ⟨
    -- Sync, Getstat, Setloc, Play, Forward, Backward
    plain fun _ _ => rfl, plain fun _ _ => rfl, handleSetloc_ignoresInert, handlePlay_ignoresInert,
    plain fun _ _ => rfl, plain fun _ _ => rfl,
    -- ReadN, Standby, Stop, Pause, Init
    plain fun _ _ => rfl, plain fun _ _ => rfl, plain fun _ _ => rfl, plain fun _ _ => rfl, plain fun _ _ => rfl,
    -- Mute, Demute, Setfilter, Setmode, Getparam, GetlocL
    plain fun _ _ => rfl, plain fun _ _ => rfl, plain fun _ _ => rfl, plain fun _ _ => rfl, plain fun _ _ => rfl,
    plain fun _ _ => rfl,
    -- GetlocP, SetSession, GetTN, GetTD
    handleGetlocP_ignoresInert, handleSetSession_ignoresInert, plain fun _ _ => rfl, handleGetTD_ignoresInert,
    -- SeekL, SeekP
    fun _ s => startSeek_answer_ignoresInert s _, fun _ s => startSeek_answer_ignoresInert s _,
    -- SetClock, GetClock, Test, GetID
    plain fun _ _ => rfl, plain fun _ _ => rfl, handleTest_ignoresInert, plain fun _ _ => rfl,
    -- ReadS, Reset, GetQ, ReadTOC
    plain fun _ _ => rfl, plain fun _ _ => rfl, plain fun _ _ => rfl, plain fun _ _ => rfl,
    fun _ h => nomatch h⟩

/-- The checks before a handler do not reach the inert parts (43_commands.md R180, R181). -/
theorem dispatch_blanked (op : Byte) {h : Handler} (hi : h.IgnoresInert) :
    blanked (dispatch op h s.withoutInert) = blanked (dispatch op h s) := by
  have handled (w : State) :
      blanked (settle (h s.curParams w.withoutInert)) = blanked (settle (h s.curParams w)) := by
    rw [← settle_blanked, hi, settle_blanked]
  have asked : s.withoutInert.queried = s.queried.withoutInert := rfl
  have noDisc (a : Answer) (w : State) : blanked (a, w.withoutInert) = blanked (a, w) := by simp [blanked]
  have err : Answer.err s.withoutInert errCount = Answer.err s errCount := rfl
  simp only [dispatch_eq, State.withoutInert_curParams, State.withoutInert_backend, apply_ite blanked, asked, handled,
    noDisc, err]

theorem runCommand_ignoresInert (op : Byte) {h : Handler} (hi : h.IgnoresInert) :
    (runCommand op h s.withoutInert).withoutInert = (runCommand op h s).withoutInert := by
  simp only [runCommand, ← conclude_blanked, dispatch_blanked s op hi]

theorem runInvalid_withoutInert : runInvalid s.withoutInert = (runInvalid s).withoutInert :=
  conclude_blanked (Answer.err s errInvalid, s)

theorem dispatchOpcode_ignoresInert (op : Byte) : IgnoresInert (dispatchOpcode op) := by
  intro s
  simp only [dispatchOpcode_eq]
  cases found : handlerTable[op.toNat]? with
  | some h =>
    have ignores := handlerTable_ignoresInert h (List.mem_of_getElem? found)
    exact congrArg Host.Outcome.next (runCommand_ignoresInert s op ignores)
  | none => exact IgnoresInert.of_next runInvalid_withoutInert s

/-! ### The event bodies -/

theorem cmdExec_ignoresInert (g : Nat) : IgnoresInert (execCmdExec g) := by
  intro s
  have deferred : s.withoutInert.defer .cmdExec g = (s.defer .cmdExec g).withoutInert := rfl
  simp only [execCmdExec, State.withoutInert_cmdGen, State.withoutInert_phase, State.withoutInert_latch,
    State.withoutInert_curOp, deferred, apply_ite withoutInert, withoutInert_next, State.withoutInert_withoutInert,
    dispatchOpcode_ignoresInert s.curOp s]

theorem cmdSecond_ignoresInert (g : Nat) : IgnoresInert (execCmdSecond g) := by
  refine .of_exchange fun s => ?_
  simp only [execCmdSecond, finish_withoutInert, State.withoutInert_curOp, apply_ite withoutInert]
  cases finish s.curOp s with
  | none => rfl
  | some t =>
    simp only [Option.map_some, State.withoutInert_statP, respond_withoutInert]
    rfl

theorem seekDone_ignoresInert (g : Nat) : IgnoresInert (execSeekDone g) := by
  refine .of_exchange fun s => ?_
  simp only [execSeekDone, finishSeek_withoutInert, apply_ite withoutInert]
  rfl

theorem sectorRead_ignoresInert (g : Nat) : IgnoresInert (execSectorRead g) := by
  refine .of_exchange fun s => ?_
  simp only [execSectorRead, askSector_withoutInert, apply_ite withoutInert, withoutInert_next]
  cases sector : s.askSector.1 with
  | none =>
    simp only [blanked, sector, readFail_withoutInert]
    rfl
  | some image =>
    simp only [blanked, sector, deliverSector_withoutInert]
    rfl

theorem playSector_ignoresInert (g : Nat) : IgnoresInert (execPlaySector g) := by
  refine .of_exchange fun s => ?_
  simp only [execPlaySector, playSectorLive_withoutInert, apply_ite withoutInert]
  rfl

theorem irqRecheck_ignoresInert (g : Nat) : IgnoresInert (execIrqRecheck g) := by
  refine .of_next fun s => ?_
  simp only [signal_withoutInert, apply_ite State.withoutInert]
  rfl

theorem event_ignoresInert (e : Event) : IgnoresInert (exec e.instr) := by
  obtain ⟨due, seq, kind, gen⟩ := e
  cases kind with
  | cmdExec => exact cmdExec_ignoresInert gen
  | cmdSecond => exact cmdSecond_ignoresInert gen
  | seekDone => exact seekDone_ignoresInert gen
  | sectorRead => exact sectorRead_ignoresInert gen
  | playSector => exact playSector_ignoresInert gen
  | irqRecheck => exact irqRecheck_ignoresInert gen

/-! ### The port operations -/

/-- The byte written replaces `ctrl`, whatever stood in it (40_fifo_and_registers.md R117). -/
theorem p0w_ignoresInert (v : Byte) : IgnoresInert (execP0w v) := by
  intro s
  simp [execP0w, withoutInert, State.withoutInert, BitVec.and_assoc]

/-- The byte written replaces `irq_mask`, whatever stood in it (40_fifo_and_registers.md R124). -/
theorem p3wMask_ignoresInert (v : Byte) : IgnoresInert (execP3wMask v) := by
  intro s
  simp [execP3wMask, withoutInert, State.withoutInert, BitVec.and_assoc]

theorem p2r_ignoresInert : IgnoresInert execP2r := by
  refine .of_exchange fun s => ?_
  simp only [execP2r, apply_ite withoutInert]
  rfl

theorem p3r_ignoresInert : IgnoresInert execP3r := by
  refine .of_next fun s => ?_
  have acknowledged : (if s.withoutInert.latch.pending then s.withoutInert.ackIrq else s.withoutInert) =
      (if s.latch.pending then s.ackIrq else s).withoutInert := by
    rw [apply_ite State.withoutInert, ackIrq_withoutInert]
    rfl
  exact congrArg (State.returning _) acknowledged

theorem access_ignoresInert (port : Nat) (write : Option Byte) (mode : Bool) :
    IgnoresInert (exec (accessInstr port write mode)) := by
  match port, write, mode with
  | 0, none, _ => exact .of_exchange fun _ => rfl
  | 0, some v, _ => exact p0w_ignoresInert v
  | 1, none, _ => exact .of_exchange fun _ => rfl
  | 1, some op, false => exact .of_next fun s => issueCommand_withoutInert s op
  | 1, some _, true => exact .of_exchange fun _ => rfl
  | 2, none, _ => exact p2r_ignoresInert
  | 2, some _, false => exact .of_exchange fun _ => rfl
  | 2, some _, true => exact .of_exchange fun _ => rfl
  | _ + 3, none, _ => exact p3r_ignoresInert
  | _ + 3, some _, false => exact .of_exchange fun _ => rfl
  | _ + 3, some v, true => exact p3wMask_ignoresInert v

/-! ### The step -/

theorem fetchAccess_ignoresInert (a : BusAccess) : IgnoresInert fun s => runFetched (fetchAccess a s) := by
  intro s
  simp only [fetchAccess, State.withoutInert_cfg, State.withoutInert_paramMode]
  split_ifs with outside width
  · rfl
  · rfl
  · simp only [runFetched, runEncoded, decode_access _ _ _ (show a.addr - s.cfg.cdBase < 4 by omega)]
    exact access_ignoresInert _ _ _ s

theorem fetchHost_ignoresInert (hd : HostStep) : IgnoresInert fun s => runFetched (fetchHost hd s) := by
  cases hd with
  | tick c => exact .of_exchange fun _ => rfl
  | access c a => exact fetchAccess_ignoresInert a
  | powerOn c => exact fun _ => rfl

theorem fetch_ignoresInert : IgnoresInert fun s => runFetched (fetch s) := by
  intro s
  simp only [fetch, State.withoutInert_inputs]
  cases s.inputs with
  | nil => exact congrArg Host.Outcome.next s.withoutInert_withoutInert
  | cons hd rest =>
    simp only [State.withoutInert_now, State.withoutInert_queue]
    by_cases past : hd.cycle < s.now
    · simp only [past, ↓reduceIte]
    · simp only [past, ↓reduceIte]
      cases s.queue.nextDue hd.cycle with
      | some e =>
        simp only [runFetched, runEncoded, Event.decode_encoded]
        exact event_ignoresInert e (s.firing e)
      | none => exact fetchHost_ignoresInert hd (s.taking hd.cycle rest)

theorem step_ignoresInert : IgnoresInert step := by
  intro s
  simp only [step_eq]
  exact fetch_ignoresInert s.quiet

/-- Settles O60: two states with the same blanked state each step like that one. -/
theorem inertBitsHaveNoEffect : Obligations.InertBitsHaveNoEffect := by
  intro s t same
  calc withoutInert (step s)
    _ = withoutInert (step s.withoutInert) := (step_ignoresInert s).symm
    _ = withoutInert (step t.withoutInert) := by rw [same]
    _ = withoutInert (step t) := step_ignoresInert t

end Sys2Proof.Machine
end

section
/-! SUPPORT and the settlement of O6 and O7. One equation of the step per branch of the fetch (20_memory.md R62, R66;
45_irq_scheduler.md R283, R284): nothing offered, a cycle in the past, a due event, and the host's step; then one
equation of the host's access per check on it. -/

namespace Sys2Proof.Machine

variable {s : State} {h : HostStep} {rest : List HostStep}

/-! ### The step, by what the fetch meets -/

theorem step_of_no_input (none_offered : s.inputs = []) : step s = .next s.quiet := by
  simp only [step_eq, fetch, State.quiet_inputs, none_offered, runFetched]

theorem step_of_past (offered : s.inputs = h :: rest) (past : h.cycle < s.now) :
    step s = .refused (.pastCycle h.cycle) := by
  simp only [step_eq, fetch, State.quiet_inputs, State.quiet_now, offered, past, ↓reduceIte, runFetched]

theorem step_of_due {e : Event} (offered : s.inputs = h :: rest) (ahead : s.now ≤ h.cycle)
    (due : s.queue.nextDue h.cycle = some e) : step s = runEncoded e.encoded (s.quiet.firing e) := by
  simp only [step_eq, fetch, State.quiet_inputs, State.quiet_now, State.quiet_queue, offered,
    Nat.not_lt.mpr ahead, ↓reduceIte, due, runFetched]

theorem step_of_none_due (offered : s.inputs = h :: rest) (ahead : s.now ≤ h.cycle)
    (none_due : s.queue.nextDue h.cycle = none) :
    step s = runFetched (fetchHost h (s.quiet.taking h.cycle rest)) := by
  simp only [step_eq, fetch, State.quiet_inputs, State.quiet_now, State.quiet_queue, offered,
    Nat.not_lt.mpr ahead, ↓reduceIte, none_due]

/-! ### The host's access, by the checks on it -/

theorem fetchAccess_of_outside {a : BusAccess} (outside : a.addr < s.cfg.cdBase ∨ s.cfg.cdBase + 4 ≤ a.addr) :
    fetchAccess a s = .fault (.noSuchPort a.addr) := if_pos outside

theorem fetchAccess_of_nonByte {a : BusAccess} (low : s.cfg.cdBase ≤ a.addr) (high : a.addr < s.cfg.cdBase + 4)
    (nonByte : a.bits ≠ 8) : fetchAccess a s = .refused (.nonByteAccess a.bits) := by
  have inside : ¬ (a.addr < s.cfg.cdBase ∨ s.cfg.cdBase + 4 ≤ a.addr) := by omega
  rw [fetchAccess, if_neg inside, if_pos nonByte]

theorem fetchAccess_of_port {port : Nat} (write : Option Byte) (isPort : port < 4) :
    fetchAccess { addr := s.cfg.cdBase + port, bits := 8, write := write } s =
      .run (accessEncoded port write s.paramMode) s := by
  have inside : ¬ (s.cfg.cdBase + port < s.cfg.cdBase ∨ s.cfg.cdBase + 4 ≤ s.cfg.cdBase + port) := by omega
  simp only [fetchAccess, if_neg inside, ne_eq, not_true_eq_false, if_false, Nat.add_sub_cancel_left]

/-! ### What is run -/

theorem runEncoded_of_decode {e : Encoded} {i : Instr} (decoded : decode e = .ok i) : runEncoded e s = exec i s := by
  simp only [runEncoded, decoded]

/-! ### The settlements -/

/-- Settles O6: the branch of the due event, and the branch of the host's step with the access on a port. -/
theorem stepRunsDecodedInstruction : Obligations.StepRunsDecodedInstruction := by
  constructor
  · intro s h rest e i offered ahead due decoded
    rw [step_of_due offered ahead due, runEncoded_of_decode decoded]
  · intro s t port write rest i offered isPort ahead none_due decoded
    have fetched : fetchHost (.access t { addr := s.cfg.cdBase + port, bits := 8, write := write })
        (s.quiet.taking t rest) = .run (accessEncoded port write s.paramMode) (s.quiet.taking t rest) :=
      fetchAccess_of_port (s := s.quiet.taking t rest) write isPort
    calc step s
      _ = runEncoded (accessEncoded port write s.paramMode) (s.quiet.taking t rest) := by
        rw [step_of_none_due offered ahead none_due, HostStep.cycle, fetched, runFetched]
      _ = exec i (s.quiet.taking t rest) := runEncoded_of_decode decoded

/-- Settles O7: the branches that stop at the fetch, and the host's step by its kind and the checks on an access. -/
theorem stepWithoutInstruction : Obligations.StepWithoutInstruction := by
  intro s h rest
  refine ⟨step_of_no_input, step_of_past, fun offered ahead none_due => ?_⟩
  have taken := step_of_none_due offered ahead none_due
  refine ⟨?tick, ?powerOn, ?outside, ?nonByte⟩
  case tick =>
    rintro t rfl
    exact taken
  case powerOn =>
    rintro t rfl
    exact taken
  case outside =>
    rintro t a rfl outside
    exact taken.trans (congrArg runFetched (fetchAccess_of_outside (s := s.quiet.taking t rest) outside))
  case nonByte =>
    rintro t a rfl low high nonByte
    exact taken.trans (congrArg runFetched (fetchAccess_of_nonByte (s := s.quiet.taking t rest) low high nonByte))

end Sys2Proof.Machine
end

section
/-! SUPPORT and the settlements of O1 to O5. First the encoding tables: at most one row of the command table covers a
byte (30_encoding.md R81), so a lookup answers the row that covers, whatever stands before it. Then what the encoder
gives back for what the rows of each space make, and packed BCD (R85). -/

namespace Sys2Proof

/-! ### Rows and lookups -/

/-- A mask that keeps the bits from `k` up matches the words of one block of `2 ^ k`. -/
theorem and_allOnes_shiftLeft_eq_iff {n k : Nat} (w p : BitVec n) (aligned : 2 ^ k ∣ p.toNat) :
    w &&& BitVec.allOnes n <<< k = p ↔ p.toNat ≤ w.toNat ∧ w.toNat < p.toNat + 2 ^ k := by
  have masked : (w &&& BitVec.allOnes n <<< k).toNat = w.toNat / 2 ^ k * 2 ^ k := by
    rw [← BitVec.shiftLeft_ushiftRight, BitVec.toNat_shiftLeft, BitVec.toNat_ushiftRight, Nat.shiftRight_eq_div_pow,
      Nat.shiftLeft_eq, Nat.mod_eq_of_lt ((Nat.div_mul_le_self _ _).trans_lt w.isLt)]
  obtain ⟨q, block⟩ := aligned
  have positive := Nat.two_pow_pos k
  rw [← BitVec.toNat_inj, masked, block, Nat.mul_comm, Nat.mul_left_cancel_iff positive, Nat.div_eq_iff positive,
    Nat.mul_comm q]
  omega

variable {n : Nat} {α : Type}

theorem Row.covers_iff (r : Row n α) (w : BitVec n) : r.covers w = true ↔ w &&& r.mask = r.pattern := beq_iff_eq

/-- A row whose mask keeps every bit covers its pattern only. -/
theorem Row.eq_pattern_of_covers {r : Row n α} {w : BitVec n} (exact_mask : r.mask = BitVec.allOnes n)
    (covers : r.covers w = true) : w = r.pattern := by
  rw [Row.covers_iff, exact_mask, BitVec.and_allOnes] at covers
  exact covers

/-- The patterns of two rows differ at a bit that both masks keep. -/
def Row.Apart (q r : Row n α) : Prop := q.pattern &&& r.mask ≠ r.pattern &&& q.mask

theorem Row.Apart.not_both {q r : Row n α} {w : BitVec n} (apart : q.Apart r) (covers : r.covers w = true) :
    ¬ q.covers w = true := by
  intro covers_q
  rw [Row.covers_iff] at covers covers_q
  apply apart
  rw [← covers, ← covers_q, BitVec.and_assoc, BitVec.and_assoc, BitVec.and_comm q.mask]

variable {rows : List (Row n α)} {why : Reject} {w : BitVec n} {x : α}

theorem lookupRow_of_mem {r : Row n α} (apart : rows.Pairwise Row.Apart) (mem : r ∈ rows)
    (covers : r.covers w = true) : lookupRow rows why w x = .ok (r.make x) := by
  have found : rows.find? (fun q => q.covers w) = some r := by
    induction rows with
    | nil => cases mem
    | cons q rows ih =>
      obtain ⟨q_apart, apart⟩ := List.pairwise_cons.mp apart
      rcases List.mem_cons.mp mem with rfl | mem
      · exact List.find?_cons_of_pos covers
      · have skipped : ¬ q.covers w = true := (q_apart r mem).not_both covers
        simpa only [List.find?_cons, skipped] using ih apart mem
  simp only [lookupRow, found]

theorem exists_row_of_lookupRow {i : Instr} (decoded : lookupRow rows why w x = .ok i) :
    ∃ r ∈ rows, r.covers w = true ∧ r.make x = i := by
  unfold lookupRow at decoded
  split at decoded
  case h_1 r found =>
    have covers : r.covers w = true := List.find?_some (p := fun q : Row n α => q.covers w) found
    exact ⟨r, List.mem_of_find?_eq_some found, covers, Except.ok.inj decoded⟩
  case h_2 => cases decoded

/-! ### The command bytes (30_encoding.md R81, R88) -/

/-- The rows of the command table that cover more than one byte. -/
def invalidRows : List (Row 8 Byte) := [
  ⟨"INVALID", 0xE0, 0x20, .invalid20⟩,
  ⟨"INVALID", 0xC0, 0x40, .invalid40⟩,
  ⟨"INVALID", 0x80, 0x80, .invalid80⟩]

theorem filter_commandRows : commandRows.filter (fun r => r.mask ≠ BitVec.allOnes 8) = invalidRows := rfl

theorem mem_invalidRows_iff {r : Row 8 Byte} : r ∈ invalidRows ↔ r ∈ commandRows ∧ r.mask ≠ BitVec.allOnes 8 := by
  rw [← filter_commandRows, List.mem_filter, decide_eq_true_iff]

theorem commandRows_apart : commandRows.Pairwise Row.Apart := by
  unfold Row.Apart
  decide

/-- The bytes of an INVALID row are those with which its instruction is well formed. -/
theorem wf_iff_covers_of_mem_invalidRows {r : Row 8 Byte} (mem : r ∈ invalidRows) (op : Byte) :
    (r.make op).wf = true ↔ r.covers op = true := by
  rw [Row.covers_iff]
  simp only [invalidRows, List.mem_cons, List.not_mem_nil, or_false] at mem
  rcases mem with rfl | rfl | rfl
  · have block := and_allOnes_shiftLeft_eq_iff (k := 5) op 0x20 (by decide)
    simpa [Instr.wf] using block.symm
  · have block := and_allOnes_shiftLeft_eq_iff (k := 6) op 0x40 (by decide)
    simpa [Instr.wf] using block.symm
  · have block := and_allOnes_shiftLeft_eq_iff (k := 7) op 0x80 (by decide)
    simpa [Instr.wf, op.isLt] using block.symm

theorem encode_make_of_mem_invalidRows {r : Row 8 Byte} (mem : r ∈ invalidRows) (op : Byte) :
    encode (r.make op) = .command [op] := by
  simp only [invalidRows, List.mem_cons, List.not_mem_nil, or_false] at mem
  rcases mem with rfl | rfl | rfl <;> rfl

theorem exact_commandRow : ∀ r ∈ commandRows, r.mask = BitVec.allOnes 8 →
    (r.make r.pattern).wf = true ∧ encode (r.make r.pattern) = .command [r.pattern] := by decide

/-- What a row of the command table makes of a byte it covers is well formed and encoded as that byte. -/
theorem commandRow_wf_encode {r : Row 8 Byte} {op : Byte} (mem : r ∈ commandRows) (covers : r.covers op = true) :
    (r.make op).wf = true ∧ encode (r.make op) = .command [op] := by
  by_cases exact_mask : r.mask = BitVec.allOnes 8
  · rw [Row.eq_pattern_of_covers exact_mask covers]
    exact exact_commandRow r mem exact_mask
  · have invalid : r ∈ invalidRows := mem_invalidRows_iff.mpr ⟨mem, exact_mask⟩
    exact ⟨(wf_iff_covers_of_mem_invalidRows invalid op).mpr covers, encode_make_of_mem_invalidRows invalid op⟩

theorem wf_and_encode_of_decode_command {bytes : List Byte} {i : Instr} (decoded : decode (.command bytes) = .ok i) :
    i.wf = true ∧ encode i = .command bytes := by
  simp only [decode] at decoded
  unfold decodeCommand at decoded
  split at decoded
  case h_1 op =>
    obtain ⟨r, mem, covers, rfl⟩ := exists_row_of_lookupRow decoded
    exact commandRow_wf_encode mem covers
  case h_2 => cases decoded

/-- A well-formed INVALID instruction comes back from its byte: its row covers the byte, so no other row does. -/
theorem decode_encode_invalid {r : Row 8 Byte} {op : Byte} (mem : r ∈ invalidRows) (wf : (r.make op).wf = true) :
    decode (encode (r.make op)) = .ok (r.make op) := by
  rw [encode_make_of_mem_invalidRows mem op]
  exact lookupRow_of_mem commandRows_apart (mem_invalidRows_iff.mp mem).1
    ((wf_iff_covers_of_mem_invalidRows mem op).mp wf)

/-! ### The event kinds (30_encoding.md R93) -/

theorem exact_eventRow {r : Row 3 Nat} (mem : r ∈ eventRows) (gen : Nat) : r.mask = BitVec.allOnes 3 ∧
    (r.make gen).wf = true ∧ encode (r.make gen) = .event [r.pattern.setWidth 8] gen := by
  simp only [eventRows, List.mem_cons, List.not_mem_nil, or_false] at mem
  rcases mem with rfl | rfl | rfl | rfl | rfl | rfl <;> exact ⟨rfl, rfl, rfl⟩

theorem wf_and_encode_of_decode_event {bytes : List Byte} {gen : Nat} {i : Instr}
    (decoded : decode (.event bytes gen) = .ok i) : i.wf = true ∧ encode i = .event bytes gen := by
  simp only [decode] at decoded
  unfold decodeEvent at decoded
  split at decoded
  case h_1 kind =>
    split at decoded
    case isTrue small =>
      obtain ⟨r, mem, covers, rfl⟩ := exists_row_of_lookupRow decoded
      obtain ⟨exact_mask, wf, encoded⟩ := exact_eventRow mem gen
      have kept : (kind.setWidth 3).setWidth 8 = kind := by bv_omega
      rw [← Row.eq_pattern_of_covers exact_mask covers, kept] at encoded
      exact ⟨wf, encoded⟩
    case isFalse => cases decoded
  case h_2 => cases decoded

/-! ### The port accesses (30_encoding.md R80) -/

theorem wf_make_of_mem_portRows {r : Row 4 Byte} (mem : r ∈ portRows) (data : Byte) : (r.make data).wf = true := by
  simp only [portRows, List.mem_cons, List.not_mem_nil, or_false] at mem
  rcases mem with rfl | rfl | rfl | rfl | rfl | rfl | rfl | rfl | rfl | rfl | rfl <;> rfl

theorem wf_of_decode_port {bytes : List Byte} {i : Instr} (decoded : decode (.port bytes) = .ok i) :
    i.wf = true := by
  simp only [decode] at decoded
  unfold decodePort at decoded
  split at decoded
  case h_1 sel data =>
    split at decoded
    case isTrue =>
      obtain ⟨r, mem, -, rfl⟩ := exists_row_of_lookupRow decoded
      exact wf_make_of_mem_portRows mem data
    case isFalse => cases decoded
  case h_2 => cases decoded

/-! ### The settlements about the decoder -/

/-- Settles O1: an INVALID byte selects its own row among all of the command table; the word of every other instruction
is a constant, on which the lookup computes. -/
theorem decodeOfEncode : Obligations.DecodeOfEncode := by
  intro i wf
  cases i with
  | invalid20 op => exact decode_encode_invalid (.head _) wf
  | invalid40 op => exact decode_encode_invalid (.tail _ (.head _)) wf
  | invalid80 op => exact decode_encode_invalid (.tail _ (.tail _ (.head _))) wf
  | _ => rfl

/-- Settles O2: by the encoding space, from what each row of its table makes. -/
theorem decoderYieldsWellFormed : Obligations.DecoderYieldsWellFormed := by
  refine ⟨?wellFormed, fun b i decoded => (wf_and_encode_of_decode_command decoded).2,
    fun b g i decoded => (wf_and_encode_of_decode_event decoded).2⟩
  intro e i decoded
  cases e with
  | port bytes => exact wf_of_decode_port decoded
  | command bytes => exact (wf_and_encode_of_decode_command decoded).1
  | event bytes gen => exact (wf_and_encode_of_decode_event decoded).1

end Sys2Proof

namespace Sys2Proof.Machine

/-- Settles O3: each of the eight kinds of access decodes to its instruction. -/
theorem portDecodeTable : Obligations.PortDecodeTable := fun v m =>
  ⟨decode_access 0 none m (by decide), decode_access 0 (some v) m (by decide),
    decode_access 1 none m (by decide), decode_access 1 (some v) m (by decide),
    decode_access 2 none m (by decide), decode_access 2 (some v) m (by decide),
    decode_access 3 none m (by decide), decode_access 3 (some v) m (by decide)⟩

/-- Settles O4: the words are constants, on which the decoder computes. -/
theorem sampleWordsDecode : Obligations.SampleWordsDecode := by
  unfold Obligations.SampleWordsDecode
  decide

/-! ### Packed BCD (30_encoding.md R85) -/

theorem bcd_toNat {v : Nat} (h : v < 100) : (bcd v).toNat = v / 10 * 16 + v % 10 := by
  rw [bcd, BitVec.toNat_ofNat]
  omega

theorem validBcd_iff {b : Byte} : validBcd b = true ↔ b.toNat / 16 ≤ 9 ∧ b.toNat % 16 ≤ 9 := by
  simp [validBcd]

theorem validBcd_bcd {v : Nat} (h : v < 100) : validBcd (bcd v) = true := by
  rw [validBcd_iff, bcd_toNat h]
  omega

theorem unbcd_bcd {v : Nat} (h : v < 100) : unbcd (bcd v) = v := by
  rw [unbcd, bcd_toNat h]
  omega

theorem unbcd_lt {b : Byte} (valid : validBcd b = true) : unbcd b < 100 := by
  rw [validBcd_iff] at valid
  rw [unbcd]
  omega

theorem bcd_unbcd {b : Byte} (valid : validBcd b = true) : bcd (unbcd b) = b := by
  apply BitVec.eq_of_toNat_eq
  rw [bcd_toNat (unbcd_lt valid), unbcd]
  rw [validBcd_iff] at valid
  omega

/-- Settles O5: the two digits determine the byte and the number, and each keeps to its range. -/
theorem bcdRoundTrip : Obligations.BcdRoundTrip :=
  ⟨fun _ h => ⟨bcd_toNat h, validBcd_bcd h, unbcd_bcd h⟩, fun _ valid => ⟨unbcd_lt valid, bcd_unbcd valid⟩⟩

end Sys2Proof.Machine
end

section
/-! SUPPORT and the settlements of O10 to O17 and O58. First the ring as the list of its live bytes
(40_fifo_and_registers.md R110 to R115): a push appends, a pop takes the head, and so do runs of them. Then the single
bits of the registers (R118, R123) and the port operations by their cases. Last, why every body, and so every step,
gives a next state (R126, 60_exceptions.md R302). -/

namespace Sys2Proof.Machine

/-! ### The ring as a list (40_fifo_and_registers.md R111, R112, R114) -/

section Ring

variable {cap : Nat} {f : Fifo}

theorem Fifo.contents_eq_nil_iff : f.contents cap = [] ↔ f.size = 0 := by
  rw [← List.length_eq_zero_iff, Fifo.length_contents]

theorem Fifo.clear_contents (cap : Nat) (f : Fifo) : f.clear.contents cap = [] := rfl

theorem Fifo.clear_pop (cap : Nat) (f : Fifo) : f.clear.pop cap = (0x00, f.clear) := Fifo.pop_empty cap f.clear rfl

/-- Different offsets below the capacity name different entries of the ring. -/
theorem ring_index_ne {cap i n : Nat} (rd : Nat) (lt : i < n) (room : n < cap) : (rd + i) % cap ≠ (rd + n) % cap := by
  intro same
  have offsets : i ≡ n [MOD cap] := Nat.ModEq.add_left_cancel' rd same
  exact lt.ne (offsets.eq_of_lt_of_lt (lt.trans room) room)

/-- A push with room appends: the entry written is the one behind the live bytes, and none of them. -/
theorem Fifo.push_contents (b : Byte) (wf : f.wf cap = true) (room : f.size < cap) :
    (f.push cap b).contents cap = f.contents cap ++ [b] := by
  obtain ⟨length, _, inRange, _, behind⟩ := (Fifo.wf_iff cap f).mp wf
  have written : (f.buf.set f.wr b).getD ((f.rd + f.size) % cap) 0x00 = b := by
    rw [← behind, List.getD_eq_getElem?_getD, List.getElem?_set_self (by omega), Option.getD_some]
  have kept : ∀ i ∈ List.range f.size, (f.buf.set f.wr b).getD ((f.rd + i) % cap) 0x00 =
      f.buf.getD ((f.rd + i) % cap) 0x00 := by
    intro i live
    have other : f.wr ≠ (f.rd + i) % cap :=
      behind.trans_ne (ring_index_ne f.rd (List.mem_range.mp live) room).symm
    rw [List.getD_eq_getElem?_getD, List.getElem?_set_ne other, ← List.getD_eq_getElem?_getD]
  rw [Fifo.push_room cap f b room.ne, Fifo.contents, List.range_succ, List.map_append, List.map_singleton, written,
    List.map_congr_left kept, Fifo.contents]

/-- A pop of a ring with live bytes takes the head of their list. -/
theorem Fifo.contents_eq_pop_cons (wf : f.wf cap = true) (ready : f.size ≠ 0) :
    f.contents cap = (f.pop cap).1 :: (f.pop cap).2.contents cap := by
  obtain ⟨_, inRange, _⟩ := (Fifo.wf_iff cap f).mp wf
  obtain ⟨n, size⟩ := Nat.exists_eq_succ_of_ne_zero ready
  have shifted (i : Nat) : ((f.rd + 1) % cap + i) % cap = (f.rd + (i + 1)) % cap := by
    rw [Nat.mod_add_mod, Nat.add_right_comm, Nat.add_assoc]
  simp [Fifo.pop_ready cap f ready, Fifo.contents, size, List.range_succ_eq_map, Nat.mod_eq_of_lt inRange, shifted,
    Function.comp_def]

theorem Fifo.pop_of_contents_cons {x : Byte} {xs : List Byte} (wf : f.wf cap = true) (live : f.contents cap = x :: xs) :
    (f.pop cap).1 = x ∧ (f.pop cap).2.contents cap = xs := by
  have ready : f.size ≠ 0 := by
    rw [ne_eq, ← Fifo.contents_eq_nil_iff (cap := cap), live]
    exact List.cons_ne_nil x xs
  rw [Fifo.contents_eq_pop_cons wf ready] at live
  exact List.cons_eq_cons.mp live

/-- Settles O11: each operation of the ring is the operation on the list of live bytes. -/
theorem fifoRefinesList : Obligations.FifoRefinesList := fun cap f b wf =>
  ⟨fun room => ⟨Fifo.push_wf cap f b wf, Fifo.push_contents b wf room⟩,
    Fifo.push_full cap f b,
    fun _ _ live =>
      have ⟨oldest, rest⟩ := Fifo.pop_of_contents_cons wf live
      ⟨oldest, rest, Fifo.pop_wf cap f wf⟩,
    fun empty => Fifo.pop_empty cap f (Fifo.contents_eq_nil_iff.mp empty),
    Fifo.clear_contents cap f, Fifo.clear_wf cap f wf, rfl, Fifo.clear_pop cap f⟩

/-! ### Runs of pushes and pops (40_fifo_and_registers.md R115) -/

/-- Pushes that fit append their bytes. -/
theorem Fifo.pushAll_contents (bs : List Byte) : ∀ {f : Fifo}, f.wf cap = true → f.size + bs.length ≤ cap →
    (f.pushAll cap bs).contents cap = f.contents cap ++ bs := by
  induction bs with
  | nil => exact fun _ _ => (List.append_nil _).symm
  | cons b bs ih =>
    intro f wf fits
    rw [List.length_cons] at fits
    have pushed : (f.push cap b).contents cap = f.contents cap ++ [b] := Fifo.push_contents b wf (by omega)
    have size : (f.push cap b).size = f.size + 1 := by
      rw [← Fifo.length_contents cap, pushed, List.length_append, Fifo.length_contents, List.length_singleton]
    calc (f.pushAll cap (b :: bs)).contents cap
      _ = (f.push cap b).contents cap ++ bs := ih (Fifo.push_wf cap f b wf) (by omega)
      _ = f.contents cap ++ b :: bs := by rw [pushed, List.append_assoc, List.singleton_append]

theorem Fifo.pushAll_full (bs : List Byte) (full : f.size = cap) : f.pushAll cap bs = f := by
  induction bs with
  | nil => rfl
  | cons b bs ih =>
    calc f.pushAll cap (b :: bs)
      _ = (f.push cap b).pushAll cap bs := rfl
      _ = f := by rw [Fifo.push_full cap f b full, ih]

/-- As many pops as there are live bytes give them all, oldest first, and leave none. -/
theorem Fifo.popMany_contents (bs : List Byte) : ∀ {f : Fifo}, f.wf cap = true → f.contents cap = bs →
    (f.popMany cap bs.length).1 = bs ∧ (f.popMany cap bs.length).2.size = 0 := by
  induction bs with
  | nil => exact fun _ empty => ⟨rfl, Fifo.contents_eq_nil_iff.mp empty⟩
  | cons b bs ih =>
    intro f wf live
    obtain ⟨oldest, rest⟩ := Fifo.pop_of_contents_cons wf live
    obtain ⟨popped, empty⟩ := ih (Fifo.pop_wf cap f wf) rest
    exact ⟨congrArg₂ List.cons oldest popped, empty⟩

/-- Settles O10: the pushes leave exactly the bytes as contents, which the pops then give; a ring filled to its capacity
takes no more. -/
theorem fifoLaws : Obligations.FifoLaws := by
  intro cap f bs extra wf empty
  have pushed (fits : bs.length ≤ cap) : (f.pushAll cap bs).contents cap = bs := by
    rw [Fifo.pushAll_contents bs wf (by omega), Fifo.contents_eq_nil_iff.mpr empty, List.nil_append]
  have popped (fits : bs.length ≤ cap) := Fifo.popMany_contents bs (Fifo.pushAll_wf cap bs f wf) (pushed fits)
  refine ⟨popped, fun exactly => ?saturated, Fifo.pop_empty cap f empty, Fifo.clear_pop cap⟩
  case saturated =>
    have full : (f.pushAll cap bs).size = cap := by
      rw [← Fifo.length_contents cap, pushed exactly.le, exactly]
    have dropped : f.pushAll cap (bs ++ extra) = f.pushAll cap bs :=
      List.foldl_append.trans (Fifo.pushAll_full extra full)
    obtain ⟨all, _⟩ := popped exactly.le
    rw [exactly] at all
    exact ⟨dropped, dropped ▸ all⟩

end Ring

/-! ### Bits of a register (40_fifo_and_registers.md R118, R123) -/

/-- Testing the mask of a single bit is reading that bit. -/
theorem hasBit_twoPow (v : Byte) {n : Nat} (lt : n < 8) : hasBit v (BitVec.twoPow 8 n) = v.getLsbD n := by
  have nonzero : BitVec.twoPow 8 n ≠ 0#8 := fun zero => by
    simpa [lt] using congrArg (fun w : Byte => w.getLsbD n) zero
  cases bit : v.getLsbD n <;> simp [hasBit, BitVec.and_twoPow, bit, nonzero]

theorem getLsbD_flagBit (b : Bool) (mask : Byte) (i : Nat) :
    (flagBit b mask).getLsbD i = (b && mask.getLsbD i) := by
  cases b <;> simp [flagBit]

/-- A bit of the status byte is the `or` of the six flags' shares in it. -/
theorem getLsbD_statByte (s : State) (i : Nat) : s.statByte.getLsbD i =
    ((s.statP.getLsbD 0 && (0x01 : Byte).getLsbD i) || (s.statP.getLsbD 6 && (0x02 : Byte).getLsbD i) ||
      (s.statP.getLsbD 5 && (0x04 : Byte).getLsbD i) ||
      (decide (s.pfifo.size < s.cfg.paramCap) && (0x10 : Byte).getLsbD i) ||
      (decide (0 < s.rfifo.size) && (0x20 : Byte).getLsbD i) || (s.xfer.ready && (0x40 : Byte).getLsbD i)) := by
  have error : hasBit s.statP statError = s.statP.getLsbD 0 := hasBit_twoPow s.statP (n := 0) (by decide)
  have seeking : hasBit s.statP statSeeking = s.statP.getLsbD 6 := hasBit_twoPow s.statP (n := 6) (by decide)
  have reading : hasBit s.statP statReading = s.statP.getLsbD 5 := hasBit_twoPow s.statP (n := 5) (by decide)
  simp only [State.statByte, BitVec.getLsbD_or, getLsbD_flagBit, error, seeking, reading]

/-! ### The port operations -/

/-- Settles O12: the byte is `STAT`, read bit by bit. -/
theorem p0RReturnsStatus : Obligations.P0RReturnsStatus := by
  refine fun s => ⟨s.statByte, rfl, ?_⟩
  simp only [getLsbD_statByte]
  simp

/-- Settles O13: the request byte's two masks are its bits 7 and 6; the other three operations are their equations. -/
theorem registerWrites : Obligations.RegisterWrites := by
  intro s v
  refine ⟨rfl, rfl, rfl, ?request⟩
  case request =>
    have shows : hasBit v 0x80 = v.getLsbD 7 := hasBit_twoPow v (n := 7) (by decide)
    have clears : hasBit v 0x40 = v.getLsbD 6 := hasBit_twoPow v (n := 6) (by decide)
    simp only [exec, execP3wReq, shows, clears, Fifo.clear]
    cases v.getLsbD 7 <;> simp

/-- Settles O14: both are the push of the ring, which appends with room and drops when full. -/
theorem parameterPushes : Obligations.ParameterPushes := by
  intro s v wf
  refine ⟨s.pfifo.push s.cfg.paramCap v, rfl, rfl, ?_⟩
  split_ifs with room
  · exact Fifo.push_contents v wf room
  · have full : s.pfifo.size = s.cfg.paramCap := by
      obtain ⟨_, _, _, bounded, _⟩ := (Fifo.wf_iff _ _).mp wf
      omega
    rw [Fifo.push_full _ _ v full]

/-- A Port1 read is a pop of the response ring, whose byte goes to the bus. -/
theorem p1r_eq (s : State) : exec .p1r s = .next { s with
    rfifo := (s.rfifo.pop s.cfg.respCap).2
    out := { s.out with bus := some (s.rfifo.pop s.cfg.respCap).1 } } := rfl

/-- Settles O15: the pop takes the head of the contents; with none it leaves the ring as it is. -/
theorem p1RPopsResponse : Obligations.P1RPopsResponse := by
  intro s wf
  constructor
  · intro x xs live
    obtain ⟨oldest, rest⟩ := Fifo.pop_of_contents_cons wf live
    exact ⟨_, rest, by rw [p1r_eq, oldest]⟩
  · intro empty
    rw [p1r_eq, Fifo.pop_empty _ _ (Fifo.contents_eq_nil_iff.mp empty)]

theorem p2r_of_not_ready {s : State} (drained : s.xfer.ready = false) :
    exec .p2r s = .next (s.returning 0x00) := if_neg (Bool.eq_false_iff.mp drained)

theorem p2r_of_ready {s : State} (ready : s.xfer.ready = true) : exec .p2r s = .next ({ s with
    xfer := { s.xfer with
      index := s.xfer.index + 1
      ready := s.xfer.index + 1 != s.xfer.size } }.returning (s.xfer.buf.read s.xfer.index)) := if_pos ready

/-- Settles O16: the two cases of `data_ready`. -/
theorem p2RReadsSectorByte : Obligations.P2RReadsSectorByte := by
  refine fun s => ⟨p2r_of_not_ready, fun ready => ?_⟩
  have last : (s.xfer.index + 1 != s.xfer.size) = if s.xfer.index + 1 = s.xfer.size then false else true := by
    split_ifs with ends <;> simp [ends]
  rw [p2r_of_ready ready, last]
  rfl

/-- A Port3 read acknowledges a pending interrupt and returns its type. -/
theorem p3r_eq (s : State) : exec .p3r s =
    .next ((if s.latch.pending = true then s.ackIrq else s).returning (s.latch.kind.setWidth 8)) := rfl

/-- Settles O17: nothing pending, or the acknowledgement by phase and queue. -/
theorem p3RAcknowledges : Obligations.P3RAcknowledges := by
  intro s
  have unread (quiet : s.latch.pending = false) :
      exec .p3r s = .next (s.returning (s.latch.kind.setWidth 8)) := by
    rw [p3r_eq, if_neg (Bool.eq_false_iff.mp quiet)]
  refine ⟨unread, ?noType, ?keptPhase, ?retires, ?starts⟩
  case noType =>
    intro quiet untyped
    rw [unread quiet, untyped]
    rfl
  case keptPhase =>
    intro pending other
    rw [p3r_eq, if_pos pending, State.ackIrq_eq, if_neg other]
    rfl
  case retires =>
    intro pending waiting noneQueued
    rw [p3r_eq, if_pos pending, State.ackIrq_eq, if_pos waiting, if_neg (Bool.eq_false_iff.mp noneQueued)]
    rfl
  case starts =>
    intro pending waiting isQueued
    rw [p3r_eq, if_pos pending, State.ackIrq_eq, if_pos waiting, if_pos isQueued]
    rfl

/-! ### Steps that complete (40_fifo_and_registers.md R126, 60_exceptions.md R302) -/

/-- The machine goes on. -/
def Completes (r : StepResult) : Prop := ∃ t, r = .next t

theorem Completes.next (t : State) : Completes (.next t) := ⟨t, rfl⟩

theorem access_completes (port : Nat) (write : Option Byte) (mode : Bool) (s : State) :
    Completes (exec (accessInstr port write mode) s) := by
  match port, write, mode with
  | 0, none, _ => exact .next _
  | 0, some _, _ => exact .next _
  | 1, none, _ => exact .next _
  | 1, some _, false => exact .next _
  | 1, some _, true => exact .next _
  | 2, none, _ =>
    cases ready : s.xfer.ready with
    | false => exact ⟨_, p2r_of_not_ready ready⟩
    | true => exact ⟨_, p2r_of_ready ready⟩
  | 2, some _, false => exact .next _
  | 2, some _, true => exact .next _
  | _ + 3, none, _ => exact .next _
  | _ + 3, some _, false => exact .next _
  | _ + 3, some _, true => exact .next _

theorem dispatchOpcode_completes (op : Byte) (s : State) : Completes (dispatchOpcode op s) := by
  rw [dispatchOpcode_eq]
  cases handlerTable[op.toNat]? with
  | some h => exact .next _
  | none => exact .next _

theorem cmdExec_completes (g : Nat) (s : State) : Completes (execCmdExec g s) := by
  unfold execCmdExec
  split_ifs
  · exact .next _
  · exact .next _
  · exact dispatchOpcode_completes s.curOp s

/-- The one body that can stop is the second phase of a command that has none. -/
theorem cmdSecond_completes (g : Nat) (s : State)
    (hasSecond : s.phase = .secondResponse → s.curOp ∈ [0x08, 0x09, 0x0A, 0x1E]) :
    Completes (execCmdSecond g s) := by
  unfold execCmdSecond
  split_ifs with stale pending
  · exact .next _
  · exact .next _
  · have inSecond : s.phase = .secondResponse := by
      push Not at stale
      exact stale.2
    have finishes : (finish s.curOp s).isSome = true :=
      (finish_isSome s.curOp s).mpr (by simpa using hasSecond inSecond)
    obtain ⟨t, finished⟩ := Option.isSome_iff_exists.mp finishes
    rw [finished]
    exact .next _

theorem event_completes (e : Event) (s : State)
    (hasSecond : s.phase = .secondResponse → s.curOp ∈ [0x08, 0x09, 0x0A, 0x1E]) :
    Completes (exec e.instr s) := by
  obtain ⟨due, seq, kind, gen⟩ := e
  cases kind with
  | cmdExec => exact cmdExec_completes gen s
  | cmdSecond => exact cmdSecond_completes gen s hasSecond
  | seekDone =>
    show Completes (execSeekDone gen s)
    unfold execSeekDone
    split_ifs <;> exact .next _
  | sectorRead =>
    show Completes (execSectorRead gen s)
    unfold execSectorRead
    split_ifs <;> exact .next _
  | playSector =>
    show Completes (execPlaySector gen s)
    unfold execPlaySector
    split_ifs <;> exact .next _
  | irqRecheck => exact .next _

/-- A byte access inside the window runs its port operation. -/
theorem runFetched_of_inWindow {a : BusAccess} {s : State} (inside : a.inWindow s.cfg) :
    runFetched (fetchAccess a s) = exec (accessInstr (a.addr - s.cfg.cdBase) a.write s.paramMode) s := by
  obtain ⟨addr, bits, write⟩ := a
  obtain ⟨low, high, rfl : bits = 8⟩ := inside
  obtain ⟨port, rfl : addr = s.cfg.cdBase + port⟩ := Nat.exists_eq_add_of_le low
  have isPort : port < 4 := Nat.lt_of_add_lt_add_left high
  rw [fetchAccess_of_port write isPort, Nat.add_sub_cancel_left]
  exact runEncoded_of_decode (decode_access port write s.paramMode isPort)

/-- A host step inside the interface completes once it is taken. -/
theorem fetchHost_completes {h : HostStep} {s : State} (inside : ∀ t a, h = .access t a → a.inWindow s.cfg) :
    Completes (runFetched (fetchHost h s)) := by
  cases h with
  | tick t => exact .next _
  | access t a =>
    show Completes (runFetched (fetchAccess a s))
    rw [runFetched_of_inWindow (inside t a rfl)]
    exact access_completes _ _ _ s
  | powerOn t => exact .next _

/-- Settles O58: the fetch meets nothing, a due event, or the host's step; in a command session every event has its
body, and inside the interface every host step has its meaning. -/
theorem stepAlwaysCompletes : Obligations.StepAlwaysCompletes := by
  intro s session legal
  cases offered : s.inputs with
  | nil => exact ⟨_, step_of_no_input offered⟩
  | cons h rest =>
    obtain ⟨ahead, inside⟩ := legal h rest offered
    cases due : s.queue.nextDue h.cycle with
    | some e =>
      rw [step_of_due offered ahead due, runEncoded_of_decode e.decode_encoded]
      exact event_completes e (s.quiet.firing e) session.secondPhase
    | none =>
      rw [step_of_none_due offered ahead due]
      exact fetchHost_completes (s := s.quiet.taking h.cycle rest) inside

end Sys2Proof.Machine
end

section
/-! SUPPORT and the settlements of O18, O19, O23 and O50: the operations of the command pipeline that are equations of
their own (41_command_pipeline.md R140 to R145; 45_irq_scheduler.md R282). -/

namespace Sys2Proof.Machine

/-- Settles O18: the issue by phase and queue. -/
theorem commandWriteIssues : Obligations.CommandWriteIssues := fun s op =>
  congrArg Host.Outcome.next (issueCommand_eq op s)

/-- Settles O19: both operations are their equations, and the standard table lists no opcode, so each has the default
delay. -/
theorem scheduleAndStartCommand : Obligations.ScheduleAndStartCommand :=
  ⟨fun _ _ _ _ => rfl, fun _ _ _ => rfl, fun _ => rfl⟩

/-- Settles O50: the ring is cleared, so the pushes leave exactly the response as contents. -/
theorem respondReplacesResponse : Obligations.RespondReplacesResponse := by
  intro s bytes type wf fits
  have cleared := Fifo.clear_wf _ _ wf
  have contents : (s.rfifo.clear.pushAll s.cfg.respCap bytes).contents s.cfg.respCap = bytes := by
    rw [Fifo.pushAll_contents bytes cleared (by simpa [Fifo.clear] using fits), Fifo.clear_contents, List.nil_append]
  exact ⟨_, Fifo.pushAll_wf _ bytes _ cleared, contents, rfl⟩

/-! ### The second phases (41_command_pipeline.md R145) -/

section SecondPhase

variable {s : State}

theorem cmdSecond_of_finish (second : s.phase = .secondResponse) (clear : s.latch.pending = false) {t : State}
    (finished : finish s.curOp s = some t) : exec (.cmdSecond s.cmdGen) s = .next t.completed := by
  simp only [exec, execCmdSecond, second, clear, finished, State.completed]
  simp

theorem cmdSecond_of_no_finish (second : s.phase = .secondResponse) (clear : s.latch.pending = false)
    (unfinished : finish s.curOp s = none) : exec (.cmdSecond s.cmdGen) s = .fault (.noSecondPhase s.curOp) := by
  simp only [exec, execCmdSecond, second, clear, unfinished]
  simp

end SecondPhase

/-- The motor after Init is bit 1 of `stat_p`, after one query (43_commands.md R194). -/
theorem spinAsDisc_eq (s : State) : s.spinAsDisc = { s.queried with
    statP := if s.backend.present = true then s.statP ||| 0x02 else s.statP &&& ~~~(0x02 : Byte) } := by
  have asked : s.askPresent = (s.backend.present, s.queried) := rfl
  rw [State.spinAsDisc, asked]
  cases s.backend.present <;> rfl

/-- Init ends with SPINNING as a disc is present, and with READING, SEEKING and PLAYING clear (43_commands.md R194). -/
theorem finishInit_eq_queried (s : State) : finishInit s = { s.queried with
    statP := if s.backend.present = true then s.statP &&& ~~~(0xE0 : Byte) ||| 0x02 else s.statP &&& ~~~(0xE2 : Byte)
    drive := .idle } := by
  have both_cleared : s.statP &&& ~~~(0xE0 : Byte) &&& ~~~(0x02 : Byte) = s.statP &&& ~~~(0xE2 : Byte) :=
    BitVec.and_assoc _ _ _
  rw [finishInit_eq, spinAsDisc_eq, ← both_cleared]
  rfl

/-- Settles O23: what `Finish` makes of each of the four opcodes, and that it is defined for no other. -/
theorem secondPhasesComplete : Obligations.SecondPhasesComplete := by
  intro s second clear
  have finishes {t : State} := cmdSecond_of_finish second clear (t := t)
  refine ⟨?stop, ?pause, ?init, ?readTOC, ?other⟩
  case stop => exact fun op => finishes (congrArg (finish · s) op)
  case pause => exact fun op => finishes (congrArg (finish · s) op)
  case init =>
    intro op
    have finished : finish s.curOp s = some (finishInit s) := congrArg (finish · s) op
    rw [finishes finished, finishInit_eq_queried]
  case readTOC => exact fun op => finishes (congrArg (finish · s) op)
  case other =>
    intro other
    refine cmdSecond_of_no_finish second clear (Option.not_isSome_iff_eq_none.mp fun finishes => other ?_)
    simpa using (finish_isSome s.curOp s).mp finishes

end Sys2Proof.Machine
end

section
/-! SUPPORT and the settlements of O20 and O24. What no handler touches, the part of the state that the command pipeline
owns, is a function of the state; `KeepsPart` says of two states that such a part is the same and that only events outside
the command session were submitted between them. It is shown for every handler, so that one lemma says what a command
does: a handler that keeps the pipeline's part, then the tail of CMD_EXEC (41_command_pipeline.md R143). -/

namespace Sys2Proof.Machine

/-! ### The relation -/

/-- What the command session rests on: the phase, the latched opcode and the generation (41_command_pipeline.md R147,
45_irq_scheduler.md R285). -/
def State.session (s : State) : Phase × Byte × Nat := (s.phase, s.curOp, s.cmdGen)

/-- What no handler touches: the session, the latched parameters, what raising an interrupt reads and writes, and the
time. -/
def State.pipeline (s : State) : (Phase × Byte × Nat) × List Byte × Byte × Output × Nat :=
  (s.session, s.curParams, s.irqMask, s.out, s.now)

/-- A part of the state is as it was, and the events submitted meanwhile are none of the command session. -/
structure KeepsPart {α : Type} (part : State → α) (s t : State) : Prop where
  part : part t = part s
  submitted : ∃ es, t.queue.events = s.queue.events ++ es ∧ ∀ e ∈ es, e.kind.isCommand = false

namespace KeepsPart

variable {α β : Type} {part : State → α} {s t u : State}

theorem same (h : part t = part s) (queue : t.queue = s.queue) : KeepsPart part s t :=
  ⟨h, [], by rw [queue, List.append_nil], nofun⟩

theorem unchanged (s : State) : KeepsPart part s s := same rfl rfl

/-- One event outside the command session is submitted. -/
theorem submitting {delta : Nat} {kind : EventKind} {gen : Nat} (h : part t = part s)
    (queue : t.queue = (s.schedule delta kind gen).queue) (foreign : kind.isCommand = false) : KeepsPart part s t :=
  ⟨h, _, by rw [queue]; rfl, by simpa using foreign⟩

theorem trans (first : KeepsPart part s t) (second : KeepsPart part t u) : KeepsPart part s u := by
  obtain ⟨es, events, foreign⟩ := first.submitted
  obtain ⟨es', events', foreign'⟩ := second.submitted
  exact ⟨second.part.trans first.part, es ++ es', by rw [events', events, List.append_assoc],
    List.forall_mem_append.mpr ⟨foreign, foreign'⟩⟩

/-- A part of the part is kept with it. -/
theorem coarser (h : KeepsPart part s t) (f : α → β) : KeepsPart (f ∘ part) s t :=
  ⟨congrArg f h.part, h.submitted⟩

theorem session (h : KeepsPart State.pipeline s t) : KeepsPart State.session s t := h.coarser Prod.fst

end KeepsPart

open KeepsPart

/-! ### The tail of a command (41_command_pipeline.md R143) -/

section Tail

variable {a : Answer} {s : State}

theorem conclude_of_single (single : a.second = none) :
    conclude (a, s) = { s.respond a.bytes a.irq with phase := .waitingIrq } := by rw [conclude_eq, single]

theorem conclude_of_second {d : Nat} (second : a.second = some d) : conclude (a, s) =
    { s.respond a.bytes a.irq with phase := .secondResponse }.schedule d .cmdSecond s.cmdGen := by
  rw [conclude_eq, second]

/-- The tail leaves the latched command and the time alone, and pulses the line exactly when the interrupt is enabled. -/
theorem conclude_pipeline (a : Answer) (s : State) :
    (conclude (a, s)).curOp = s.curOp ∧ (conclude (a, s)).curParams = s.curParams ∧ (conclude (a, s)).now = s.now ∧
      (conclude (a, s)).out.line = (s.out.line || s.irqEnabled a.irq.code) := by
  cases second : a.second with
  | none => simp [conclude_of_single second]
  | some d => simp [conclude_of_second second]

end Tail

/-! ### The handlers -/

/-- What a command's checks and handler give: the pipeline's part of the state is kept, and a second phase is asked for
with ACK by Stop, Pause, Init and ReadTOC only (41_command_pipeline.md R145). -/
structure HandlerOutcome (op : Byte) (s : State) (r : Answer × State) : Prop where
  kept : KeepsPart State.pipeline s r.2
  second : ∀ d, r.1.second = some d → op ∈ [0x08, 0x09, 0x0A, 0x1E] ∧ r.1.irq = .ack

/-- As the handler of an opcode, a handler gives such an outcome, whatever the parameters. -/
def Handler.Fits (op : Byte) (h : Handler) : Prop := ∀ p s, HandlerOutcome op s (h p s)

namespace HandlerOutcome

variable {op : Byte} {s : State} {r : Answer × State}

/-- An answer without a second phase. -/
theorem single (kept : KeepsPart State.pipeline s r.2) (none : r.1.second = none) : HandlerOutcome op s r :=
  ⟨kept, fun _ second => nomatch none.symm.trans second⟩

theorem after {t : State} (first : KeepsPart State.pipeline s t) (h : HandlerOutcome op t r) :
    HandlerOutcome op s r := ⟨first.trans h.kept, h.second⟩

theorem settle (h : HandlerOutcome op s r) : HandlerOutcome op s (settle r) := by
  rw [settle_eq]
  refine ⟨h.kept.trans ?_, h.second⟩
  split_ifs <;> exact same rfl rfl

end HandlerOutcome

open HandlerOutcome

theorem dispatch_outcome (op : Byte) {h : Handler} (fits : h.Fits op) (s : State) :
    HandlerOutcome op s (dispatch op h s) := by
  have asked : KeepsPart State.pipeline s s.queried := same rfl rfl
  rw [dispatch_eq]
  split_ifs
  · exact .after asked (fits s.curParams s.queried).settle
  · exact .single asked rfl
  · exact (fits s.curParams s).settle
  · exact .single (unchanged s) rfl

section Handlers

variable {op : Byte}

/-- A handler that leaves the event queue alone, and the pipeline's part of the state. -/
theorem Handler.Fits.of_same {h : Handler} (part : ∀ p s, (h p s).2.pipeline = s.pipeline)
    (queue : ∀ p s, (h p s).2.queue = s.queue) (single : ∀ p s, (h p s).1.second = none) : h.Fits op :=
  fun p s => .single (same (part p s) (queue p s)) (single p s)

theorem handleSetloc_fits : Handler.Fits op handleSetloc := by
  intro p s
  unfold handleSetloc
  split_ifs <;> exact .single (same rfl rfl) rfl

theorem snapSeek_keepsPipeline (s : State) : KeepsPart State.pipeline s (snapSeek s) := same rfl rfl

theorem startPlay_keepsPipeline (s : State) : KeepsPart State.pipeline s (startPlay s) := submitting rfl rfl rfl

theorem playTrack_outcome (t : Nat) (s : State) : HandlerOutcome op s (playTrack t s) := by
  have asked : KeepsPart State.pipeline s s.queried := same rfl rfl
  unfold playTrack
  dsimp only
  split_ifs
  · exact .single asked rfl
  · refine .single (.trans ?_ (startPlay_keepsPipeline _)) rfl
    exact (asked.trans (snapSeek_keepsPipeline _)).trans (same rfl rfl)

theorem handlePlay_fits : Handler.Fits op handlePlay := by
  intro p s
  unfold handlePlay
  split_ifs
  · exact playTrack_outcome _ s
  · exact .single (unchanged s) rfl
  · exact .single ((snapSeek_keepsPipeline s).trans (startPlay_keepsPipeline _)) rfl

theorem handleReadN_fits : Handler.Fits op handleReadN := fun _ _ => .single (submitting rfl rfl rfl) rfl

theorem handleGetlocP_fits : Handler.Fits op handleGetlocP := by
  intro p s
  obtain ⟨b, tracked⟩ := trackOf_state s.cur s
  have kept : KeepsPart State.pipeline s (trackOf s.cur s).2 := tracked ▸ same rfl rfl
  exact .single (kept.trans (same rfl rfl)) rfl

theorem handleSetSession_fits : Handler.Fits op handleSetSession := by
  intro p s
  unfold handleSetSession
  split_ifs <;> exact .single (unchanged s) rfl

theorem handleGetTD_fits : Handler.Fits op handleGetTD := by
  intro p s
  unfold handleGetTD trackStartAnswer
  dsimp only
  split_ifs <;> exact .single (same rfl rfl) rfl

theorem handleTest_fits : Handler.Fits op handleTest := by
  intro p s
  unfold handleTest
  split_ifs <;> exact .single (unchanged s) rfl

theorem startSeek_keepsPipeline (k : DriveState) (s : State) : KeepsPart State.pipeline s (startSeek k s) := by
  have inPlace : KeepsPart State.pipeline s (seekInPlace s) := by
    unfold seekInPlace
    split_ifs <;> exact same rfl rfl
  exact inPlace.trans (submitting rfl rfl rfl)

end Handlers

/-- The handler of every opcode, beside its index in the table. Those of Stop, Pause, Init and ReadTOC ask for a second
phase. -/
theorem handlerTable_fits : ∀ x ∈ handlerTable.zipIdx, Handler.Fits (BitVec.ofNat 8 x.2) x.1 := by
  have plain {op : Byte} {h : Handler} (part : ∀ p s, (h p s).2.pipeline = s.pipeline := by exact fun _ _ => rfl)
      (queue : ∀ p s, (h p s).2.queue = s.queue := by exact fun _ _ => rfl)
      (single : ∀ p s, (h p s).1.second = none := by exact fun _ _ => rfl) : h.Fits op := .of_same part queue single
  have twoPhase {op : Byte} {h : Handler} (mem : op ∈ [0x08, 0x09, 0x0A, 0x1E])
      (part : ∀ p s, (h p s).2.pipeline = s.pipeline := by exact fun _ _ => rfl)
      (queue : ∀ p s, (h p s).2.queue = s.queue := by exact fun _ _ => rfl)
      (ack : ∀ p s, (h p s).1.irq = .ack := by exact fun _ _ => rfl) : h.Fits op :=
    fun p s => ⟨same (part p s) (queue p s), fun _ _ => ⟨mem, ack p s⟩⟩
  simp only [handlerTable, List.zipIdx_cons, List.zipIdx_nil, List.forall_mem_cons]
  exact ⟨
    -- Sync, Getstat, Setloc, Play, Forward, Backward
    plain, plain, handleSetloc_fits, handlePlay_fits, plain, plain,
    -- ReadN, Standby
    handleReadN_fits, plain,
    -- Stop, Pause, Init
    twoPhase (by decide), twoPhase (by decide), twoPhase (by decide),
    -- Mute, Demute, Setfilter, Setmode
    plain, plain, plain, plain,
    -- Getparam, GetlocL, GetlocP
    plain, plain, handleGetlocP_fits,
    -- SetSession, GetTN, GetTD
    handleSetSession_fits, plain, handleGetTD_fits,
    -- SeekL, SeekP
    fun _ s => .single (startSeek_keepsPipeline .seekingLogical s) rfl,
    fun _ s => .single (startSeek_keepsPipeline .seekingPhysical s) rfl,
    -- SetClock, GetClock, Test, GetID
    plain, plain, handleTest_fits, plain,
    -- ReadS (the handler of ReadN), Reset, GetQ, ReadTOC
    handleReadN_fits, plain, plain, twoPhase (by decide),
    fun _ h => nomatch h⟩

/-- Every command byte ends in the tail of CMD_EXEC, after checks and a handler that keep the pipeline's part of the
state (41_command_pipeline.md R143, 43_commands.md R180, R215). -/
theorem dispatchOpcode_concludes (op : Byte) (s : State) :
    ∃ a u, dispatchOpcode op s = .next (conclude (a, u)) ∧ HandlerOutcome op s (a, u) := by
  rw [dispatchOpcode_eq]
  cases found : handlerTable[op.toNat]? with
  | some h =>
    have indexed : (h, op.toNat) ∈ handlerTable.zipIdx := List.mem_zipIdx_iff_getElem?.mpr found
    have fits : h.Fits op := by simpa using handlerTable_fits _ indexed
    exact ⟨_, _, rfl, dispatch_outcome op fits s⟩
  | none => exact ⟨_, _, rfl, .single (unchanged s) rfl⟩

/-- A command ends with its interrupt latched, waiting for the acknowledgement, or after ACK for one of the four second
phases. -/
theorem conclude_waits {op : Byte} {s u : State} {a : Answer} (outcome : HandlerOutcome op s (a, u)) :
    (conclude (a, u)).phase = .waitingIrq ∨ ((conclude (a, u)).phase = .secondResponse ∧
      op ∈ [0x08, 0x09, 0x0A, 0x1E] ∧ (conclude (a, u)).latch.kind = 3) := by
  cases second : a.second with
  | none =>
    rw [conclude_of_single second]
    exact .inl rfl
  | some d =>
    obtain ⟨mem, ack : a.irq = .ack⟩ := outcome.second d second
    rw [conclude_latch, ack, conclude_of_second second]
    exact .inr ⟨rfl, mem, rfl⟩

/-! ### The latched opcode and the decoder -/

/-- The pattern of every row of the command table is dispatched to the meaning of the row's instruction. -/
theorem exec_row_pattern (s : State) :
    ∀ r ∈ commandRows, exec (r.make r.pattern) s = dispatchOpcode r.pattern s := by
  rw [← List.map_inj_left]
  rfl

/-- The meaning of a decoded command byte is what the opcode dispatch runs for it: of a row with a full mask the byte is
the pattern, and every byte of the other rows takes the invalid-command path. -/
theorem exec_of_decode_command {op : Byte} {i : Instr} (decoded : decode (.command [op]) = .ok i) (s : State) :
    exec i s = dispatchOpcode op s := by
  obtain ⟨r, mem, covers, rfl⟩ := exists_row_of_lookupRow (rows := commandRows) decoded
  by_cases exact_mask : r.mask = BitVec.allOnes 8
  · rw [Row.eq_pattern_of_covers exact_mask covers]
    exact exec_row_pattern s r mem
  · have invalid : r ∈ invalidRows := mem_invalidRows_iff.mpr ⟨mem, exact_mask⟩
    have wf := (wf_iff_covers_of_mem_invalidRows invalid op).mpr covers
    simp only [invalidRows, List.mem_cons, List.not_mem_nil, or_false] at invalid
    rcases invalid with rfl | rfl | rfl <;>
    · simp only [Instr.wf, Bool.and_eq_true, decide_eq_true_eq] at wf
      exact (dispatchOpcode_invalid op s (by omega)).symm

theorem cmdExec_of_live {s : State} (executing : s.phase = .executing) (clear : s.latch.pending = false) :
    exec (.cmdExec s.cmdGen) s = dispatchOpcode s.curOp s := by
  simp [exec, execCmdExec, executing, clear]

/-- Settles O20: the decoder's instruction is the opcode's meaning, and every meaning ends in the tail of CMD_EXEC. -/
theorem cmdExecRunsLatchedCommand : Obligations.CmdExecRunsLatchedCommand := by
  intro s i executing clear decoded
  have meaning := exec_of_decode_command decoded s
  obtain ⟨a, u, ran, outcome⟩ := dispatchOpcode_concludes s.curOp s
  refine ⟨(cmdExec_of_live executing clear).trans meaning.symm, _, meaning.trans ran, ?latched, ?waits⟩
  case latched => rw [conclude_latch]
  case waits => exact (conclude_waits outcome).imp_right And.left

/-! ### From the write of a command to its answer (41_command_pipeline.md R140, R143; 60_exceptions.md R302) -/

theorem issueCommand_of_idle {s : State} (op : Byte) (idle : s.phase = .idle) : issueCommand op s =
    { s with pfifo := s.pfifo.clear }.startCommand op (s.pfifo.contents s.cfg.paramCap) := by
  rw [issueCommand_eq, if_pos idle]

/-- The write of a command byte to Port1, outside parameter mode and with the controller idle, is a step that starts the
command at the write's cycle. -/
theorem step_of_command_write {s : State} {t : Nat} {op : Byte} {rest : List HostStep}
    (offered : s.inputs = writePort s.cfg t 1 op :: rest) (ahead : s.now ≤ t) (none_due : s.queue.nextDue t = none)
    (mode : s.paramMode = false) (idle : s.phase = .idle) : step s = .next
      ({ s.quiet.taking t rest with pfifo := s.pfifo.clear }.startCommand op (s.pfifo.contents s.cfg.paramCap)) := by
  have decoded : decode (accessEncoded 1 (some op) s.paramMode) = .ok (.p1wCmd op) := by
    rw [decode_access 1 _ _ (by decide), mode]
    rfl
  obtain ⟨_, access⟩ := stepRunsDecodedInstruction
  calc step s
    _ = .next (issueCommand op (s.quiet.taking t rest)) :=
      access s t 1 (some op) rest (.p1wCmd op) offered (by decide) ahead none_due decoded
    _ = _ := congrArg Host.Outcome.next (issueCommand_of_idle (s := s.quiet.taking t rest) op idle)

/-- The event that starting a command schedules (41_command_pipeline.md R141). -/
def startedEvent (op : Byte) (s : State) : Event :=
  { due := s.now + s.cfg.tCmd op, seq := s.queue.nextSeq, kind := .cmdExec, gen := s.cmdGen + 1 }

/-- With no other event pending, the step after the start of a command runs it, once the host's step lies past its
delay. -/
theorem step_of_started_command {s : State} {h : HostStep} {rest : List HostStep} {op : Byte} {params : List Byte}
    (offered : s.inputs = h :: rest) (due : s.now + s.cfg.tCmd op ≤ h.cycle) (clear : s.latch.pending = false)
    (none_pending : s.queue.events = []) : step (s.startCommand op params) =
      dispatchOpcode op ((s.startCommand op params).quiet.firing (startedEvent op s)) := by
  have next : (s.startCommand op params).queue.nextDue h.cycle = some (startedEvent op s) := by
    simp [EventQueue.nextDue, none_pending, startedEvent, due, leastEvent]
  have ahead : s.now ≤ h.cycle := by omega
  obtain ⟨event, _⟩ := stepRunsDecodedInstruction
  calc step (s.startCommand op params)
    _ = exec (.cmdExec (s.cmdGen + 1)) ((s.startCommand op params).quiet.firing (startedEvent op s)) :=
      event _ h rest _ _ offered ahead next (startedEvent op s).decode_encoded
    _ = _ := cmdExec_of_live (s := (s.startCommand op params).quiet.firing (startedEvent op s)) rfl clear

theorem run_two {s t u : State} (first : step s = .next t) (second : step t = .next u) :
    Host.Core.run core 2 s = .next u := by
  have first' : core.step s = .next t := first
  have second' : core.step t = .next u := second
  simp only [Host.Core.run, first', second']

/-- What a command byte leaves, whatever the byte: the latched command and the time as they were, its interrupt latched,
and on a line that was low the pulse exactly when the mask enables the interrupt. -/
theorem dispatchOpcode_answers (op : Byte) (s : State) (low : s.out.line = false) : ∃ t, dispatchOpcode op s = .next t ∧
    t.now = s.now ∧ t.curOp = s.curOp ∧ t.curParams = s.curParams ∧ t.latch.pending = true ∧
    t.out.line = s.irqEnabled t.latch.kind ∧
    (t.phase = .waitingIrq ∨ (t.phase = .secondResponse ∧ op ∈ [0x08, 0x09, 0x0A, 0x1E] ∧ t.latch.kind = 3)) := by
  obtain ⟨a, u, ran, outcome⟩ := dispatchOpcode_concludes op s
  have kept : u.pipeline = s.pipeline := outcome.kept.part
  simp only [State.pipeline, State.session, Prod.mk.injEq] at kept
  obtain ⟨⟨_, curOp, _⟩, curParams, irqMask, out, now⟩ := kept
  obtain ⟨curOp', curParams', now', line⟩ := conclude_pipeline a u
  refine ⟨_, ran, now'.trans now, curOp'.trans curOp, curParams'.trans curParams, ?pending, ?line,
    conclude_waits outcome⟩
  case pending => rw [conclude_latch]
  case line => rw [line, conclude_latch, out, low, Bool.false_or, State.irqEnabled, irqMask, State.irqEnabled]

/-- The command started in a state without events is answered by the next step, at the end of its delay. -/
theorem started_command_answered {s : State} {h : HostStep} {rest : List HostStep} (op : Byte) (params : List Byte)
    (offered : s.inputs = h :: rest) (due : s.now + s.cfg.tCmd op ≤ h.cycle) (clear : s.latch.pending = false)
    (none_pending : s.queue.events = []) : ∃ t, step (s.startCommand op params) = .next t ∧
      t.now = s.now + s.cfg.tCmd op ∧ t.curOp = op ∧ t.curParams = params ∧ t.latch.pending = true ∧
      t.out.line = s.irqEnabled t.latch.kind ∧ (t.phase = .waitingIrq ∨
        (t.phase = .secondResponse ∧ op ∈ [0x08, 0x09, 0x0A, 0x1E] ∧ t.latch.kind = 3)) := by
  rw [step_of_started_command offered due clear none_pending]
  exact dispatchOpcode_answers op _ rfl

/-- Settles O24: the first step starts the command, whose CMD_EXEC is then the only pending event; the second step runs
it at its cycle. -/
theorem everyCommandIsAnswered : Obligations.EveryCommandIsAnswered := by
  intro s t u op rest offered ahead due mode idle clear none_pending
  have none_due : s.queue.nextDue t = none := by simp [EventQueue.nextDue, none_pending, leastEvent]
  have first := step_of_command_write offered ahead none_due mode idle
  obtain ⟨v, second, answered⟩ := started_command_answered
    (s := { s.quiet.taking t (.tick u :: rest) with pfifo := s.pfifo.clear }) op (s.pfifo.contents s.cfg.paramCap)
    rfl due clear none_pending
  exact ⟨v, run_two first second, answered⟩

end Sys2Proof.Machine
end

section
/-! SUPPORT and the settlement of O55. `CommandEvents` takes the two counts of `CommandSession` together and says which
command event is awaited, apart from the phase, so that it can be spoken of between the firing of the awaited event and
the next phase (41_command_pipeline.md R147, R148; 45_irq_scheduler.md R285, R286). The drive's events and all but two
port operations keep the session's part of the state (`KeepsPart State.session`). -/

namespace Sys2Proof.Machine

open KeepsPart

/-! ### Counting pending events -/

section Counting

variable (s : State) (kind : EventKind) (gen : Nat)

theorem State.pendingCount_schedule (delta : Nat) (k : EventKind) (g : Nat) :
    (s.schedule delta k g).pendingCount kind gen = s.pendingCount kind gen + if k = kind ∧ g = gen then 1 else 0 := by
  simp [State.pendingCount, List.countP_append, List.countP_singleton]

theorem State.pendingCount_firing {e : Event} (pending : e ∈ s.queue.events) : (s.firing e).pendingCount kind gen =
    s.pendingCount kind gen - if e.kind = kind ∧ e.gen = gen then 1 else 0 := by
  simp [State.pendingCount, State.firing, List.countP_erase, pending]

theorem State.pendingCount_pos {e : Event} (pending : e ∈ s.queue.events) : 0 < s.pendingCount e.kind e.gen :=
  List.countP_pos_iff.mpr ⟨e, pending, by simp⟩

end Counting

/-- The command events pending are the same where only others were submitted. -/
theorem KeepsPart.pendingCount {α : Type} {part : State → α} {s t : State} (h : KeepsPart part s t) {kind : EventKind}
    (command : kind.isCommand = true) (gen : Nat) : t.pendingCount kind gen = s.pendingCount kind gen := by
  obtain ⟨es, events, foreign⟩ := h.submitted
  have others : es.countP (fun e => e.kind == kind && e.gen == gen) = 0 := by
    rw [List.countP_eq_zero]
    intro e mem same
    simp only [Bool.and_eq_true, beq_iff_eq] at same
    simp [← same.1, foreign e mem] at command
  rw [State.pendingCount, events, List.countP_append, others, Nat.add_zero, State.pendingCount]

/-! ### The awaited command event -/

/-- The command event a phase waits for (41_command_pipeline.md R147). -/
def Phase.awaited : Phase → Option EventKind
  | .executing => some .cmdExec
  | .secondResponse => some .cmdSecond
  | .idle => none
  | .waitingIrq => none

/-- Of the command events the awaited one is pending with the current generation, once, and none is ahead. -/
structure CommandEvents (awaited : Option EventKind) (s : State) : Prop where
  pending : ∀ k : EventKind, k.isCommand = true → s.pendingCount k s.cmdGen = if awaited = some k then 1 else 0
  notAhead : ∀ e ∈ s.queue.events, e.kind.isCommand = true → e.gen ≤ s.cmdGen

theorem Phase.awaited_eq_cmdExec {p : Phase} : p.awaited = some .cmdExec ↔ p = .executing := by cases p <;> decide

theorem Phase.awaited_eq_cmdSecond {p : Phase} : p.awaited = some .cmdSecond ↔ p = .secondResponse := by
  cases p <;> decide

theorem commandSession_iff {s : State} : CommandSession s ↔ CommandEvents s.phase.awaited s ∧
    (s.phase = .secondResponse → s.curOp ∈ [0x08, 0x09, 0x0A, 0x1E]) := by
  constructor
  · rintro ⟨execPending, secondPending, notAhead, secondPhase⟩
    refine ⟨⟨fun k command => ?_, notAhead⟩, secondPhase⟩
    cases k with
    | cmdExec => simpa only [Phase.awaited_eq_cmdExec] using execPending
    | cmdSecond => simpa only [Phase.awaited_eq_cmdSecond] using secondPending
    | seekDone | sectorRead | playSector | irqRecheck => cases command
  · rintro ⟨⟨pending, notAhead⟩, secondPhase⟩
    exact {
      execPending := by simpa only [Phase.awaited_eq_cmdExec] using pending .cmdExec rfl
      secondPending := by simpa only [Phase.awaited_eq_cmdSecond] using pending .cmdSecond rfl
      notAhead := notAhead
      secondPhase := secondPhase }

namespace CommandEvents

variable {awaited : Option EventKind} {s t : State}

theorem kept (h : CommandEvents awaited s) (keeps : KeepsPart State.cmdGen s t) : CommandEvents awaited t where
  pending k command := by rw [keeps.pendingCount command, keeps.part, h.pending k command]
  notAhead e mem command := by
    obtain ⟨es, events, foreign⟩ := keeps.submitted
    rw [events, List.mem_append] at mem
    rw [keeps.part]
    rcases mem with old | new
    · exact h.notAhead e old command
    · simp [foreign e new] at command

/-- An event that is not of the current command session leaves the queue. -/
theorem firing_foreign (h : CommandEvents awaited s) {e : Event} (pending : e ∈ s.queue.events)
    (foreign : e.kind.isCommand = true → e.gen ≠ s.cmdGen) : CommandEvents awaited (s.firing e) where
  pending k command := by
    have other : ¬ (e.kind = k ∧ e.gen = s.cmdGen) := fun ⟨kind, gen⟩ => foreign (kind ▸ command) gen
    have count := s.pendingCount_firing k s.cmdGen pending
    rw [if_neg other, Nat.sub_zero, h.pending k command] at count
    exact count
  notAhead o mem := h.notAhead o (List.mem_of_mem_erase mem)

/-- A command event of the current session is the awaited one, and none is awaited once it is fired. -/
theorem firing_live (h : CommandEvents awaited s) {e : Event} (pending : e ∈ s.queue.events)
    (command : e.kind.isCommand = true) (live : e.gen = s.cmdGen) :
    awaited = some e.kind ∧ CommandEvents none (s.firing e) := by
  have here : awaited = some e.kind := by
    by_contra other
    have count := s.pendingCount_pos pending
    rw [live, h.pending e.kind command, if_neg other] at count
    exact count.false
  refine ⟨here, fun k command => ?_, fun o mem => h.notAhead o (List.mem_of_mem_erase mem)⟩
  have count := s.pendingCount_firing k s.cmdGen pending
  rw [h.pending k command, here] at count
  simpa [live] using count

/-- The current session's event is submitted where none is awaited. -/
theorem schedule (h : CommandEvents none s) (delta : Nat) (kind : EventKind) {gen : Nat} (current : gen = s.cmdGen) :
    CommandEvents (some kind) (s.schedule delta kind gen) where
  pending k command := by
    rw [State.pendingCount_schedule, State.schedule_cmdGen, h.pending k command]
    simp [current]
  notAhead := by simpa [or_imp, forall_and, current] using h.notAhead

/-- A new generation leaves the events before it stale, so that its CMD_EXEC is the one awaited. -/
theorem startCommand (h : CommandEvents awaited s) (op : Byte) (params : List Byte) :
    CommandEvents (some .cmdExec) (s.startCommand op params) := by
  have advanced : CommandEvents none
      { s with curOp := op, curParams := params, phase := .executing, cmdGen := s.cmdGen + 1 } := {
    pending := fun k command => by
      refine List.countP_eq_zero.mpr fun e mem => ?_
      simp only [Bool.and_eq_true, beq_iff_eq, not_and]
      rintro rfl
      have := h.notAhead e mem command
      omega
    notAhead := fun e mem command => (h.notAhead e mem command).trans (Nat.le_succ _) }
  exact advanced.schedule _ _ rfl

end CommandEvents

namespace CommandSession

variable {s t : State}

theorem of_events {awaited : Option EventKind} (events : CommandEvents awaited s) (phase : s.phase.awaited = awaited)
    (secondPhase : s.phase = .secondResponse → s.curOp ∈ [0x08, 0x09, 0x0A, 0x1E]) : CommandSession s :=
  commandSession_iff.mpr ⟨phase ▸ events, secondPhase⟩

theorem kept (h : CommandSession s) (keeps : KeepsPart State.session s t) : CommandSession t := by
  obtain ⟨events, secondPhase⟩ := commandSession_iff.mp h
  have part : t.session = s.session := keeps.part
  simp only [State.session, Prod.mk.injEq] at part
  obtain ⟨phase, curOp, _⟩ := part
  refine of_events (events.kept (keeps.coarser fun session => session.2.2)) (congrArg Phase.awaited phase) ?_
  rwa [phase, curOp]

/-- A command starts whatever was awaited before. -/
theorem startCommand {awaited : Option EventKind} (h : CommandEvents awaited s) (op : Byte) (params : List Byte) :
    CommandSession (s.startCommand op params) := of_events (h.startCommand op params) rfl nofun

/-- A command waits for its acknowledgement with no command event pending (41_command_pipeline.md R146). -/
theorem respondWaiting (h : CommandEvents none s) (bytes : List Byte) (type : IrqType) :
    CommandSession { s.respond bytes type with phase := .waitingIrq } := by
  refine of_events (h.kept ?_) rfl nofun
  exact submitting (s.respond_cmdGen bytes type) (s.respond_queue bytes type) rfl

/-- The tail of CMD_EXEC: the wait for the acknowledgement, or for the second phase, whose event it schedules
(41_command_pipeline.md R143). -/
theorem conclude {op : Byte} {u : State} {a : Answer} (h : CommandEvents none s)
    (outcome : HandlerOutcome op s (a, u)) (curOp : s.curOp = op) : CommandSession (conclude (a, u)) := by
  have handled : CommandEvents none u := h.kept (outcome.kept.coarser fun pipeline => pipeline.1.2.2)
  cases second : a.second with
  | none =>
    rw [conclude_of_single second]
    exact respondWaiting handled _ _
  | some d =>
    obtain ⟨mem, _⟩ := outcome.second d second
    have keptOp : u.curOp = s.curOp := congrArg (fun session => session.2.1) outcome.kept.session.part
    rw [conclude_of_second second]
    have responded : KeepsPart State.cmdGen u { u.respond a.bytes a.irq with phase := .secondResponse } :=
      submitting (u.respond_cmdGen a.bytes a.irq) (u.respond_queue a.bytes a.irq) rfl
    refine of_events ((handled.kept responded).schedule d .cmdSecond responded.part.symm) rfl fun _ => ?_
    simpa [keptOp, curOp] using mem

theorem powerOn (cfg : Config) (now : Nat) (inputs : List HostStep) (backend : Backend) :
    CommandSession (State.powerOn cfg now inputs backend) := ⟨rfl, rfl, nofun, nofun⟩

end CommandSession

/-! ### The drive's events -/

/-- If an outcome has a next state, the session's part of the state is kept there. -/
def NextKeepsSession (s : State) (r : StepResult) : Prop := ∀ t, r = .next t → KeepsPart State.session s t

theorem KeepsPart.toNext {s t : State} (h : KeepsPart State.session s t) : NextKeepsSession s (.next t) := by
  rintro _ ⟨⟩
  exact h

/-- Queries to the backend; `trackOf_state` and its like give the hypothesis. -/
theorem KeepsPart.of_backend {s t : State} (h : ∃ b : Backend, t = { s with backend := b }) :
    KeepsPart State.session s t := by
  obtain ⟨b, rfl⟩ := h
  exact same rfl rfl

theorem KeepsPart.respond {s t : State} (h : KeepsPart State.session s t) (bytes : List Byte) (type : IrqType) :
    KeepsPart State.session s (t.respond bytes type) :=
  h.trans (submitting (by simp [State.session]) (t.respond_queue bytes type) rfl)

section DriveEvents

variable (s : State)

theorem defer_keepsSession (kind : EventKind) (gen : Nat) (foreign : kind.isCommand = false) :
    KeepsPart State.session s (s.defer kind gen) := submitting rfl rfl foreign

theorem finish_keepsSession (op : Byte) (t : State) (h : finish op s = some t) : KeepsPart State.session s t := by
  unfold finish at h
  split at h <;> cases h
  · exact same rfl rfl
  · exact same rfl rfl
  · rw [finishInit_eq, State.spinAsDisc]
    split_ifs <;> exact same rfl rfl
  · exact same rfl rfl

theorem finishSeek_keepsSession : KeepsPart State.session s (finishSeek s) := by
  unfold finishSeek
  dsimp only
  split_ifs
  · refine respond ?_ _ _
    exact same rfl rfl
  · exact same rfl rfl

theorem readFail_keepsSession : KeepsPart State.session s (readFail s) := by
  refine respond ?_ _ _
  exact same rfl rfl

theorem deliverSector_keepsSession (gen : Nat) (image : List Byte) :
    KeepsPart State.session s (deliverSector gen image s) := by
  have loaded : KeepsPart State.session s { s with
      xfer := Xfer.holding s.cfg.sectorBytes image
      lastHdr := headerBytes s.cfg.sectorBytes image } := same rfl rfl
  exact (loaded.respond [s.statP] .dataReady).trans (submitting rfl rfl rfl)

theorem autoPause_keepsSession : KeepsPart State.session s (autoPause s) := by
  refine respond ?_ _ _
  exact same rfl rfl

theorem playedSector_keepsSession (a : Pcm) : KeepsPart State.session s (playedSector a s) := by
  rw [playedSector, audioOut_eq]
  exact same rfl rfl

theorem reportedSector_keepsSession (a : Pcm) (report : Bool) :
    KeepsPart State.session s (reportedSector a report s) := by
  have played := playedSector_keepsSession s a
  unfold reportedSector
  split_ifs
  · exact (played.trans (.of_backend (trackOf_state _ _))).respond _ _
  · exact played

theorem playOn_keepsSession (g : Nat) (a : Pcm) (ended report : Bool) :
    KeepsPart State.session s (playOn g a ended report s) := by
  rw [playOn_eq]
  split_ifs
  · exact (playedSector_keepsSession s a).trans (autoPause_keepsSession _)
  · exact (reportedSector_keepsSession s a report).trans (submitting rfl rfl rfl)

theorem seekDone_keepsSession (g : Nat) : NextKeepsSession s (execSeekDone g s) := by
  unfold execSeekDone
  split_ifs
  · exact (unchanged s).toNext
  · exact (defer_keepsSession s _ g rfl).toNext
  · exact (finishSeek_keepsSession s).toNext

theorem sectorRead_keepsSession (g : Nat) : NextKeepsSession s (execSectorRead g s) := by
  have asked : KeepsPart State.session s s.askSector.2 := .of_backend s.askSector_state
  unfold execSectorRead
  split_ifs
  · exact (unchanged s).toNext
  · exact (defer_keepsSession s _ g rfl).toNext
  · cases s.askSector.1 with
    | none => exact (asked.trans (readFail_keepsSession _)).toNext
    | some image => exact (asked.trans (deliverSector_keepsSession _ g image)).toNext

theorem playSectorLive_keepsSession (g : Nat) : KeepsPart State.session s (playSectorLive g s) := by
  have asked : KeepsPart State.session s s.askAudio.2 := .of_backend s.askAudio_state
  have tracked : KeepsPart State.session s (autoPauseDue s.askAudio.2).2 :=
    asked.trans (.of_backend (autoPauseDue_state _))
  unfold playSectorLive
  cases s.askAudio.1 with
  | none =>
    dsimp only
    split_ifs
    · exact asked.trans (defer_keepsSession _ _ g rfl)
    · exact asked.trans (readFail_keepsSession _)
  | some a =>
    dsimp only
    split_ifs
    · exact tracked.trans (defer_keepsSession _ _ g rfl)
    · exact tracked.trans (playOn_keepsSession _ g a _ _)

theorem playSector_keepsSession (g : Nat) : NextKeepsSession s (execPlaySector g s) := by
  unfold execPlaySector
  split_ifs
  · exact (unchanged s).toNext
  · exact (playSectorLive_keepsSession s g).toNext

theorem irqRecheck_keepsSession (g : Nat) : NextKeepsSession s (execIrqRecheck g s) := by
  unfold execIrqRecheck
  split_ifs
  · rw [State.signal_eq]
    exact toNext (same rfl rfl)
  · exact (unchanged s).toNext

end DriveEvents

/-! ### The command events -/

theorem cmdExec_of_stale {g : Nat} {s : State} (stale : g ≠ s.cmdGen) : exec (.cmdExec g) s = .next s :=
  if_pos (.inl stale)

theorem cmdSecond_of_stale {g : Nat} {s : State} (stale : g ≠ s.cmdGen) : exec (.cmdSecond g) s = .next s :=
  if_pos (.inl stale)

theorem cmdSecond_of_pending {s : State} (second : s.phase = .secondResponse) (pending : s.latch.pending = true) :
    exec (.cmdSecond s.cmdGen) s = .next (s.defer .cmdSecond s.cmdGen) := by
  simp [exec, execCmdSecond, second, pending]

section CommandEventBodies

variable {s t : State}

/-- The live CMD_EXEC is submitted again, or runs the latched command to its tail. -/
theorem cmdExec_live_keepsCommandSession (none_awaited : CommandEvents none s) (executing : s.phase = .executing)
    (ran : exec (.cmdExec s.cmdGen) s = .next t) : CommandSession t := by
  rcases cmdExec_next_cases s.cmdGen s t ran with ⟨_, stale⟩ | ⟨_, _, ⟨_, rfl⟩ | ⟨_, ran⟩⟩
  · simp [executing] at stale
  · exact .of_events (none_awaited.schedule s.cfg.tDefer .cmdExec rfl) (Phase.awaited_eq_cmdExec.mpr executing)
      fun second => nomatch executing.symm.trans second
  · obtain ⟨a, u, concluded, outcome⟩ := dispatchOpcode_concludes s.curOp s
    obtain rfl : conclude (a, u) = t := Host.Outcome.next.inj (concluded.symm.trans ran)
    exact .conclude none_awaited outcome rfl

/-- The live CMD_SECOND is submitted again, or finishes the command. -/
theorem cmdSecond_live_keepsCommandSession (none_awaited : CommandEvents none s) (second : s.phase = .secondResponse)
    (hasSecond : s.curOp ∈ [0x08, 0x09, 0x0A, 0x1E]) (ran : exec (.cmdSecond s.cmdGen) s = .next t) :
    CommandSession t := by
  cases pending : s.latch.pending with
  | true =>
    obtain rfl := Host.Outcome.next.inj ((cmdSecond_of_pending second pending).symm.trans ran)
    exact .of_events (none_awaited.schedule s.cfg.tDefer .cmdSecond rfl) (Phase.awaited_eq_cmdSecond.mpr second)
      fun _ => hasSecond
  | false =>
    cases finished : finish s.curOp s with
    | none => cases (cmdSecond_of_no_finish second pending finished).symm.trans ran
    | some u =>
      obtain rfl := Host.Outcome.next.inj ((cmdSecond_of_finish second pending finished).symm.trans ran)
      have kept := finish_keepsSession s s.curOp u finished
      exact .respondWaiting (none_awaited.kept (kept.coarser fun session => session.2.2)) _ _

/-- The body of an event, fired from a command session, keeps the session: a command event of the current generation is
the one the phase waits for, a stale one does nothing, and the drive's events keep the session's part of the state. -/
theorem event_keepsCommandSession (session : CommandSession s) {e : Event} (pending : e ∈ s.queue.events)
    (ran : exec e.instr (s.firing e) = .next t) : CommandSession t := by
  obtain ⟨events, secondPhase⟩ := commandSession_iff.mp session
  have foreign (other : e.kind.isCommand = true → e.gen ≠ s.cmdGen) : CommandSession (s.firing e) :=
    .of_events (events.firing_foreign pending other) rfl secondPhase
  have stays (stale : exec e.instr (s.firing e) = .next (s.firing e))
      (other : e.kind.isCommand = true → e.gen ≠ s.cmdGen) : CommandSession t := by
    obtain rfl := Host.Outcome.next.inj (stale.symm.trans ran)
    exact foreign other
  obtain ⟨due, seq, kind, gen⟩ := e
  cases kind with
  | cmdExec =>
    by_cases live : gen = s.cmdGen
    · obtain ⟨awaited, none_awaited⟩ := events.firing_live pending rfl live
      subst live
      exact cmdExec_live_keepsCommandSession none_awaited (Phase.awaited_eq_cmdExec.mp awaited) ran
    · exact stays (cmdExec_of_stale live) fun _ => live
  | cmdSecond =>
    by_cases live : gen = s.cmdGen
    · obtain ⟨awaited, none_awaited⟩ := events.firing_live pending rfl live
      subst live
      have second : s.phase = .secondResponse := Phase.awaited_eq_cmdSecond.mp awaited
      exact cmdSecond_live_keepsCommandSession none_awaited second (secondPhase second) ran
    · exact stays (cmdSecond_of_stale live) fun _ => live
  | seekDone => exact (foreign nofun).kept (seekDone_keepsSession _ gen t ran)
  | sectorRead => exact (foreign nofun).kept (sectorRead_keepsSession _ gen t ran)
  | playSector => exact (foreign nofun).kept (playSector_keepsSession _ gen t ran)
  | irqRecheck => exact (foreign nofun).kept (irqRecheck_keepsSession _ gen t ran)

end CommandEventBodies

/-! ### The port operations -/

/-- The acknowledgement retires a waiting command and starts the queued one (41_command_pipeline.md R146). -/
theorem ackIrq_keepsCommandSession {s : State} (session : CommandSession s) : CommandSession s.ackIrq := by
  obtain ⟨events, secondPhase⟩ := commandSession_iff.mp session
  rw [State.ackIrq_eq]
  split_ifs with waiting queued
  · exact .startCommand (s := { s with
      latch := { pending := false, kind := 0 }, phase := .idle, queued := { s.queued with valid := false } })
      (events.kept (same rfl rfl)) _ _
  · rw [waiting] at events
    exact .of_events (events.kept (same rfl rfl)) rfl nofun
  · exact session.kept (same rfl rfl)

theorem issueCommand_keepsCommandSession {s : State} (session : CommandSession s) (op : Byte) :
    CommandSession (issueCommand op s) := by
  obtain ⟨events, _⟩ := commandSession_iff.mp session
  rw [issueCommand_eq]
  split_ifs
  · exact .startCommand (s := { s with pfifo := s.pfifo.clear }) (events.kept (same rfl rfl)) _ _
  · exact session.kept (same rfl rfl)
  · exact session.kept (same rfl rfl)

theorem p2r_keepsSession (s : State) : NextKeepsSession s (execP2r s) := by
  unfold execP2r
  split_ifs <;> exact toNext (same rfl rfl)

theorem p3r_keepsCommandSession {s : State} (session : CommandSession s) : ∀ t, execP3r s = .next t →
    CommandSession t := by
  have acknowledged : CommandSession (if s.latch.pending then s.ackIrq else s) := by
    split_ifs
    · exact ackIrq_keepsCommandSession session
    · exact session
  rintro _ ⟨⟩
  exact acknowledged.kept (same rfl rfl)

/-- Only the issue of a command and the acknowledgement touch the session. -/
theorem access_keepsCommandSession {s : State} (session : CommandSession s) (port : Nat) (write : Option Byte)
    (mode : Bool) : ∀ t, exec (accessInstr port write mode) s = .next t → CommandSession t := by
  have kept {r : StepResult} (keeps : NextKeepsSession s r) (t : State) (ran : r = .next t) : CommandSession t :=
    session.kept (keeps t ran)
  match port, write, mode with
  | 0, none, _ => exact kept (toNext (same rfl rfl))
  | 0, some _, _ => exact kept (toNext (same rfl rfl))
  | 1, none, _ => exact kept (toNext (same rfl rfl))
  | 1, some op, false =>
    rintro _ ⟨⟩
    exact issueCommand_keepsCommandSession session op
  | 1, some _, true => exact kept (toNext (same rfl rfl))
  | 2, none, _ => exact kept (p2r_keepsSession s)
  | 2, some _, false => exact kept (unchanged s).toNext
  | 2, some _, true => exact kept (toNext (same rfl rfl))
  | _ + 3, none, _ => exact p3r_keepsCommandSession session
  | _ + 3, some _, false => exact kept (toNext (same rfl rfl))
  | _ + 3, some _, true => exact kept (toNext (same rfl rfl))

/-! ### The step -/

/-- Settles O55: a fired event is live or foreign to the session, every port operation keeps the session, and power-on
starts a new one without events. -/
theorem stepKeepsCommandSession : Obligations.StepKeepsCommandSession := by
  intro s t session h
  have quiet : CommandSession s.quiet := session.kept (same rfl rfl)
  rcases step_next_cases s t h with ⟨_, rfl⟩ | ⟨hd, rest, _, _, fired | ⟨_, ticked | poweredOn | accessed⟩⟩
  · exact quiet
  · obtain ⟨e, due, ran⟩ := fired
    exact event_keepsCommandSession quiet (EventQueue.nextDue_some due).1 ran
  · obtain ⟨c, _, rfl⟩ := ticked
    exact quiet.kept (same rfl rfl)
  · obtain ⟨c, _, rfl⟩ := poweredOn
    exact .powerOn _ _ _ _
  · obtain ⟨c, a, _, _, _, _, ran⟩ := accessed
    have taken : CommandSession (s.quiet.taking c rest) := quiet.kept (same rfl rfl)
    exact access_keepsCommandSession taken _ _ _ t ran

end Sys2Proof.Machine
end

section
/-! SUPPORT and the settlement of O25: the inverses of position arithmetic and the carry of one sector forward
(42_seek.md R161 to R163). -/

namespace Sys2Proof.Machine

theorem absf_lt (p : Msf) : absf p < 450000 := by
  unfold absf
  omega

theorem lba_eq_absf (p : Msf) : lba p = (absf p : Int) - 150 := by
  unfold lba absf
  omega

theorem msfOfNats_self (p : Msf) : msfOfNats p.m.val p.s.val p.f.val = p := by simp [msfOfNats]

theorem absf_msfOfNats {m s f : Nat} (hm : m < 100) (hs : s < 60) (hf : f < 75) :
    absf (msfOfNats m s f) = (m * 60 + s) * 75 + f := by
  simp [absf, msfOfNats, Fin.ofNat, Nat.mod_eq_of_lt hm, Nat.mod_eq_of_lt hs, Nat.mod_eq_of_lt hf]

/-- A minute has 4500 frames and a second 75, so the three quotients are the parts of the position. -/
theorem msfOfAbs_absf (p : Msf) : msfOfAbs (absf p) = p := by
  have minute : absf p / 4500 = p.m.val := by unfold absf; omega
  have second : absf p % 4500 / 75 = p.s.val := by unfold absf; omega
  have frame : absf p % 75 = p.f.val := by unfold absf; omega
  rw [msfOfAbs, minute, second, frame, msfOfNats_self]

theorem absf_msfOfAbs {n : Nat} (lt : n < 450000) : absf (msfOfAbs n) = n := by
  rw [msfOfAbs, absf_msfOfNats] <;> omega

theorem msfOfLba_lba (p : Msf) : msfOfLba (lba p) = p := by
  have shift : (lba p + 150).toNat = absf p := by rw [lba_eq_absf]; omega
  rw [msfOfLba, shift, msfOfAbs_absf]

theorem lba_msfOfLba {l : Int} (low : -150 ≤ l) (high : l ≤ 449849) : lba (msfOfLba l) = l := by
  rw [lba_eq_absf, msfOfLba, absf_msfOfAbs] <;> omega

theorem lba_injective : Function.Injective lba := Function.LeftInverse.injective msfOfLba_lba

/-- The carry of one sector forward ends in the frame, in the second, in the minute, or wraps (42_seek.md R163). -/
theorem advance_eq (p : Msf) : advance p =
    if p.f.val < 74 then msfOfNats p.m.val p.s.val (p.f.val + 1)
    else if p.s.val < 59 then msfOfNats p.m.val (p.s.val + 1) 0
    else if p.m.val < 99 then msfOfNats (p.m.val + 1) 0 0
    else msfOfNats 0 0 0 := by
  have frame : p.f.val + 1 = 75 ↔ ¬ p.f.val < 74 := by omega
  have second : p.s.val + 1 = 60 ↔ ¬ p.s.val < 59 := by omega
  have minute : p.m.val + 1 = 100 ↔ ¬ p.m.val < 99 := by omega
  split_ifs with in_second in_minute in_range
  · simp [advance, frame, in_second, p.s.isLt.ne, p.m.isLt.ne]
  · simp [advance, frame, second, in_second, in_minute, p.m.isLt.ne]
  · simp [advance, frame, second, minute, in_second, in_minute, in_range]
  · simp [advance, frame, second, minute, in_second, in_minute, in_range]

theorem absf_advance (p : Msf) : absf (advance p) = if absf p = 449999 then 0 else absf p + 1 := by
  have frames : absf p = (p.m.val * 60 + p.s.val) * 75 + p.f.val := rfl
  rw [advance_eq, frames]
  by_cases in_second : p.f.val < 74
  · rw [if_pos in_second, absf_msfOfNats p.m.isLt p.s.isLt (by omega)]
    split_ifs <;> omega
  rw [if_neg in_second]
  by_cases in_minute : p.s.val < 59
  · rw [if_pos in_minute, absf_msfOfNats p.m.isLt (by omega) (by decide)]
    split_ifs <;> omega
  rw [if_neg in_minute]
  by_cases in_range : p.m.val < 99
  · rw [if_pos in_range, absf_msfOfNats (by omega) (by decide) (by decide)]
    split_ifs <;> omega
  · rw [if_neg in_range, absf_msfOfNats (by decide) (by decide) (by decide)]
    split_ifs <;> omega

/-- Settles O25: each position is its absolute frame number read in minutes, seconds and frames. -/
theorem positionArithmetic : Obligations.PositionArithmetic :=
  ⟨fun p => ⟨rfl, by rw [lba_eq_absf]; omega, absf_lt p, msfOfAbs_absf p, msfOfLba_lba p⟩,
    fun _ lt => absf_msfOfAbs lt,
    fun _ low high => ⟨rfl, lba_msfOfLba low high⟩,
    absf_advance⟩

end Sys2Proof.Machine
end

section
/-! SUPPORT and the settlements of O26 and O27: the bands of the seek table and what follows from them (42_seek.md R164,
R165, R170). -/

namespace Sys2Proof.Machine

/-- The row of the seek table for a class: its duration over a distance (42_seek.md R165). -/
def SeekClass.ticks (c : Config) (d : Nat) : SeekClass → Nat
  | .none => c.tSeekMin
  | .forward => c.tSeekMin
  | .trackJump => c.seekTjBase + d * c.seekTjPer
  | .medium => c.seekMedBase + d * c.seekMedPer
  | .long => min (c.seekLongBase + d * c.seekLongPer) c.seekCap

theorem seekTicks_eq_ticks (c : Config) (d : Nat) : seekTicks c d = (seekClass d).ticks c d := by
  unfold seekTicks seekClass
  split_ifs <;> rfl

theorem SeekClass.ticks_mono (c : Config) {d e : Nat} (le : d ≤ e) (k : SeekClass) : k.ticks c d ≤ k.ticks c e := by
  have scaled (n : Nat) : d * n ≤ e * n := Nat.mul_le_mul_right n le
  cases k with
  | none | forward => exact Nat.le_refl _
  | trackJump | medium => exact Nat.add_le_add_left (scaled _) _
  | long => exact min_le_min_right _ (Nat.add_le_add_left (scaled _) _)

theorem seekClass_zero : seekClass 0 = .none := rfl

theorem seekClass_forward {d : Nat} (low : 1 ≤ d) (high : d ≤ 3) : seekClass d = .forward := by
  simp [seekClass, show d ≠ 0 by omega, high]

theorem seekClass_trackJump {d : Nat} (low : 4 ≤ d) (high : d ≤ 16) : seekClass d = .trackJump := by
  simp [seekClass, show d ≠ 0 by omega, show ¬ d ≤ 3 by omega, high]

theorem seekClass_medium {d : Nat} (low : 17 ≤ d) (high : d ≤ 1000) : seekClass d = .medium := by
  simp [seekClass, show d ≠ 0 by omega, show ¬ d ≤ 3 by omega, show ¬ d ≤ 16 by omega, high]

theorem seekClass_long {d : Nat} (low : 1001 ≤ d) : seekClass d = .long := by
  simp [seekClass, show d ≠ 0 by omega, show ¬ d ≤ 3 by omega, show ¬ d ≤ 16 by omega, show ¬ d ≤ 1000 by omega]

theorem class_and_seekTicks {c : Config} {d : Nat} {k : SeekClass} (cls : seekClass d = k) :
    seekClass d = k ∧ seekTicks c d = k.ticks c d :=
  ⟨cls, by rw [seekTicks_eq_ticks, cls]⟩

/-- Settles O27: the class of each band, and with it the row of the table. -/
theorem seekBands : Obligations.SeekBands := by
  refine ⟨fun _ _ => rfl, fun c d => ⟨?_, ?_, ?_, ?_, ?_⟩, by decide⟩
  · rintro rfl
    exact class_and_seekTicks seekClass_zero
  · exact fun low high => class_and_seekTicks (seekClass_forward low high)
  · exact fun low high => class_and_seekTicks (seekClass_trackJump low high)
  · exact fun low high => class_and_seekTicks (seekClass_medium low high)
  · exact fun low => class_and_seekTicks (seekClass_long low)

theorem seekTicks_mono_of_class (c : Config) {d e : Nat} (le : d ≤ e) (same : seekClass d = seekClass e) :
    seekTicks c d ≤ seekTicks c e := by
  rw [seekTicks_eq_ticks, seekTicks_eq_ticks, ← same]
  exact SeekClass.ticks_mono c le _

/-- The last distances of the bands but the Long one (42_seek.md R164). -/
def bandEnds : List Nat := [0, 3, 16, 1000]

theorem seekClass_succ {d : Nat} (inside : d ∉ bandEnds) : seekClass d = seekClass (d + 1) := by
  obtain ⟨h0, h3, h16, h1000⟩ : d ≠ 0 ∧ d ≠ 3 ∧ d ≠ 16 ∧ d ≠ 1000 := by simpa [bandEnds] using inside
  have within : 1 ≤ d ∧ d < 3 ∨ 4 ≤ d ∧ d < 16 ∨ 17 ≤ d ∧ d < 1000 ∨ 1001 ≤ d := by omega
  rcases within with ⟨low, high⟩ | ⟨low, high⟩ | ⟨low, high⟩ | low
  · rw [seekClass_forward low high.le, seekClass_forward (Nat.le_succ_of_le low) high]
  · rw [seekClass_trackJump low high.le, seekClass_trackJump (Nat.le_succ_of_le low) high]
  · rw [seekClass_medium low high.le, seekClass_medium (Nat.le_succ_of_le low) high]
  · rw [seekClass_long low, seekClass_long (Nat.le_succ_of_le low)]

/-- No band of the default table starts below the end of the one before (42_seek.md R170). -/
theorem seekTicks_bandEnds : ∀ d ∈ bandEnds, seekTicks Config.standard d ≤ seekTicks Config.standard (d + 1) := by decide

theorem seekTicks_standard_monotone : Monotone (seekTicks Config.standard) := by
  refine monotone_nat_of_le_succ fun d => ?_
  by_cases ends : d ∈ bandEnds
  · exact seekTicks_bandEnds d ends
  · exact seekTicks_mono_of_class _ (Nat.le_succ d) (seekClass_succ ends)

/-- Below the Long band the longest seek of the default table is that over 1000 sectors. -/
theorem seekTicks_standard_short {d : Nat} (short : d ≤ 1000) : seekTicks Config.standard d ≤ 877360 :=
  seekTicks_standard_monotone short

theorem seekTicks_standard_le_cap (d : Nat) : seekTicks Config.standard d ≤ Config.standard.seekCap := by
  rcases Nat.lt_or_ge 1000 d with long | short
  · rw [(class_and_seekTicks (seekClass_long long)).2]
    exact min_le_right _ _
  · exact (seekTicks_standard_short short).trans (by decide)

theorem seekDistance_comm (a b : Msf) : seekDistance a b = seekDistance b a := by
  rw [seekDistance, ← Int.natAbs_neg, neg_sub, seekDistance]

theorem seekDistance_eq_zero_iff (a b : Msf) : seekDistance a b = 0 ↔ a = b := by
  rw [seekDistance, Int.natAbs_eq_zero, sub_eq_zero, lba_injective.eq_iff, eq_comm]

/-- Settles O26: the distance is symmetric, a duration grows within its row of the table, and the rows of the default
table follow each other upwards. -/
theorem seekDurationLaws : Obligations.SeekDurationLaws :=
  ⟨fun c a b => congrArg (seekTicks c) (seekDistance_comm a b),
    fun c _ _ => seekTicks_mono_of_class c,
    fun _ _ le => seekTicks_standard_monotone le,
    rfl, rfl,
    seekTicks_standard_le_cap,
    fun _ => seekTicks_standard_short,
    seekDistance_eq_zero_iff⟩

end Sys2Proof.Machine
end

section
/-! SUPPORT and the settlement of O28: a live SEEK_DONE (42_seek.md R168). -/

namespace Sys2Proof.Machine

variable {s : State}

theorem finishSeek_silent (silent : s.cfg.seekCompleteIrq = false) :
    finishSeek s = { s with cur := s.target, statP := s.statP &&& ~~~statSeeking, drive := .idle } :=
  if_neg (ne_true_of_eq_false silent)

theorem finishSeek_answers (answers : s.cfg.seekCompleteIrq = true) :
    finishSeek s = { s with cur := s.target, statP := s.statP &&& ~~~statSeeking, drive := .idle }.respond
      [s.statP &&& ~~~statSeeking] .complete :=
  if_pos answers

/-- A SEEK_DONE of the running seek completes it, unless it has to answer while an interrupt is pending. -/
theorem seekDone_of_live (seeking : s.drive = .seekingLogical ∨ s.drive = .seekingPhysical)
    (free : s.cfg.seekCompleteIrq = true → s.latch.pending = false) :
    exec (.seekDone s.driveGen) s = .next (finishSeek s) := by
  have live : ¬ (s.driveGen ≠ s.driveGen ∨ s.drive ≠ .seekingLogical ∧ s.drive ≠ .seekingPhysical) := by tauto
  have undeferred : ¬ (s.cfg.seekCompleteIrq = true ∧ s.latch.pending = true) :=
    fun ⟨answers, pending⟩ => ne_true_of_eq_false (free answers) pending
  exact (if_neg live).trans (if_neg undeferred)

/-- Settles O28: the live event is the completion, with and without its answer. -/
theorem seekCompletes : Obligations.SeekCompletes := by
  intro s seeking
  constructor
  · intro silent
    rw [seekDone_of_live seeking (by simp [silent]), finishSeek_silent silent]
    rfl
  · intro answers clear
    rw [seekDone_of_live seeking fun _ => clear, finishSeek_answers answers]
    rfl

end Sys2Proof.Machine
end

section
/-! SUPPORT and the settlements of O29 to O31. The checks before a handler (43_commands.md R180, R181, R183, R215): how
many parameters an opcode takes, what a wrong count and an absent disc answer, and which handler runs otherwise. -/

namespace Sys2Proof.Machine

/-! ### The parameter counts (43_commands.md R183) -/

/-- Settles O29: by the rows of the count table, where `n <= 1` is the optional track of Play. -/
theorem parameterCounts : Obligations.ParameterCounts := by
  intro op n _
  simp only [← BitVec.toNat_inj]
  unfold countOk
  split <;> simp_all [Nat.le_one_iff_eq_zero_or_eq_one]

/-! ### The checks of a command (43_commands.md R180, R181) -/

section Checks

variable {op : Byte} {h : Handler} {s : State} {p : List Byte}

theorem runCommand_of_wrong_count (wrong : countOk op s.curParams.length = false) :
    runCommand op h s = s.failed errCount := by
  rw [runCommand, dispatch_eq, if_neg (ne_true_of_eq_false wrong)]
  rfl

theorem runCommand_of_no_disc (counted : countOk op s.curParams.length = true) (needs : needsDisc op = true)
    (absent : s.backend.present = false) : runCommand op h s = s.queried.withoutDisc := by
  rw [runCommand, dispatch_eq, if_pos counted, if_pos needs, if_neg (ne_true_of_eq_false absent)]
  rfl

/-- A command that needs no disc runs its handler once its parameters are counted. -/
theorem runCommand_of_counted (params : s.curParams = p) (counted : countOk op p.length = true)
    (free : needsDisc op = false) : runCommand op h s = conclude (settle (h p s)) := by
  subst params
  rw [runCommand, dispatch_eq, if_pos counted, if_neg (ne_true_of_eq_false free)]

/-- A command that needs a disc runs its handler one query later, if the disc is there. -/
theorem runCommand_of_present (params : s.curParams = p) (present : s.backend.present = true)
    (counted : countOk op p.length = true) (needs : needsDisc op = true) :
    runCommand op h s = conclude (settle (h p s.queried)) := by
  subst params
  rw [runCommand, dispatch_eq, if_pos counted, if_pos needs, if_pos present]

end Checks

/-- The opcodes that need a disc, as bytes. -/
theorem needsDisc_of_mem : ∀ op ∈ [(0x03 : Byte), 0x06, 0x07, 0x11, 0x13, 0x14, 0x15, 0x16, 0x1A, 0x1B, 0x1E],
    needsDisc op = true := by decide

/-- Settles O30: the decoded instruction runs the handler of its opcode behind the checks, whichever handler that is. -/
theorem commandChecksAnswerErrors : Obligations.CommandChecksAnswerErrors := by
  intro s op i valid decoded
  obtain ⟨h, found⟩ : ∃ h, handlerTable[op.toNat]? = some h :=
    ⟨_, List.getElem?_eq_getElem (Nat.lt_succ_of_le valid)⟩
  have ran : exec i s = .next (runCommand op h s) := by
    rw [exec_of_decode_command decoded, dispatchOpcode_eq, found]
  rw [ran]
  refine ⟨fun wrong => ?_, fun counted absent mem => ?_⟩
  · exact congrArg _ (runCommand_of_wrong_count wrong)
  · exact congrArg _ (runCommand_of_no_disc counted (needsDisc_of_mem op mem) absent)

/-! ### The invalid commands (43_commands.md R215) -/

theorem runInvalid_eq (s : State) : runInvalid s = s.failed errInvalid := rfl

/-- Settles O31: all four meanings, and the dispatch of every byte from 0x1F up, are the one invalid-command path. -/
theorem invalidCommandsAnswerError : Obligations.InvalidCommandsAnswerError := by
  intro s op
  have invalid : (.next (runInvalid s) : StepResult) = .next (s.failed 0x40) := congrArg _ (runInvalid_eq s)
  refine ⟨invalid, invalid, invalid, invalid, ?_⟩
  rintro above executing clear rfl
  rw [cmdExec_of_live executing clear, dispatchOpcode_invalid _ s above]
  exact invalid

end Sys2Proof.Machine
end

section
/-! SUPPORT and the settlements of O32 and O38 to O43: the three kinds of a handler's result and what the tail of a
command makes of each (41_command_pipeline.md R143, 43_commands.md R181, R182), then the commands that start no seek,
read or play. -/

namespace Sys2Proof.Machine

/-! ### The tail, by the handler's result -/

section Results

variable (s : State)

theorem conclude_settle_good (bytes : List Byte) (irq : IrqType) :
    conclude (settle (Answer.good bytes irq, s)) = s.answered bytes irq := rfl

theorem conclude_settle_statusAnswer : conclude (settle (statusAnswer s)) = s.answered [s.statP] .ack := rfl

theorem conclude_settle_twoPhase (bytes : List Byte) (delay : Nat) :
    conclude (settle (Answer.twoPhase bytes delay, s)) = s.firstPhase bytes delay := rfl

theorem conclude_settle_err (code : Byte) : conclude (settle (Answer.err s code, s)) = s.failed code := rfl

/-- An error after a query was built from the same `stat_p`. -/
theorem conclude_settle_err_queried (code : Byte) :
    conclude (settle (Answer.err s code, s.queried)) = s.queried.failed code := rfl

end Results

/-! ### The outcome of a command that passes its checks -/

section Run

variable {op : Byte} {h : Handler} {s : State} {p : List Byte}

/-- `runCommand_of_counted` as an outcome. -/
theorem next_of_counted (params : s.curParams = p) (counted : countOk op p.length = true := by rfl)
    (free : needsDisc op = false := by rfl) :
    (.next (runCommand op h s) : StepResult) = .next (conclude (settle (h p s))) :=
  congrArg _ (runCommand_of_counted params counted free)

/-- `runCommand_of_present` as an outcome. -/
theorem next_of_present (params : s.curParams = p) (present : s.backend.present = true)
    (counted : countOk op p.length = true := by rfl) (needs : needsDisc op = true := by rfl) :
    (.next (runCommand op h s) : StepResult) = .next (conclude (settle (h p s.queried))) :=
  congrArg _ (runCommand_of_present params present counted needs)

end Run

/-! ### The commands that only answer the status byte -/

/-- A command without a disc and with no effect answers the status byte, unless its parameter count is wrong. -/
theorem next_statusAnswer {op : Byte} {h : Handler} {s : State} {good : Prop} [Decidable good]
    (status : h s.curParams s = statusAnswer s) (counts : countOk op s.curParams.length = true ↔ good)
    (free : needsDisc op = false := by rfl) : (.next (runCommand op h s) : StepResult) =
      .next (if good then s.answered [s.statP] .ack else s.failed errCount) := by
  refine congrArg Host.Outcome.next ?_
  split_ifs with counted
  · rw [runCommand_of_counted rfl (counts.mpr counted) free, status, conclude_settle_statusAnswer]
  · exact runCommand_of_wrong_count (Bool.eq_false_iff.mpr (mt counts.mp counted))

theorem handleSetSession_first (s : State) : handleSetSession [0x01] s = statusAnswer s := if_pos rfl

theorem handleSetSession_other {n : Byte} (other : n ≠ 0x01) (s : State) :
    handleSetSession [n] s = (Answer.err s errValue, s) := if_neg other

theorem execSetSession_eq (s : State) : exec .setSession s = .next (
    if s.curParams = [0x01] then s.answered [s.statP] .ack
    else if s.curParams.length = 1 then s.failed errValue else s.failed errCount) := by
  refine congrArg Host.Outcome.next ?_
  split_ifs with first single
  · rw [runCommand_of_counted first rfl rfl, handleSetSession_first, conclude_settle_statusAnswer]
  · obtain ⟨n, params⟩ := List.length_eq_one_iff.mp single
    have other : n ≠ 0x01 := by
      rintro rfl
      exact first params
    rw [runCommand_of_counted params rfl rfl, handleSetSession_other other, conclude_settle_err]
  · exact runCommand_of_wrong_count (by simpa [countOk] using single)

/-- Settles O32: each of the commands is its count check before the status answer; SetSession checks the session too. -/
theorem statusOnlyCommands : Obligations.StatusOnlyCommands := by
  intro s
  refine ⟨?noParameters, ?anyParameters, next_statusAnswer rfl beq_iff_eq, execSetSession_eq s⟩
  case noParameters =>
    have empty : (s.curParams.length == 0) = true ↔ s.curParams = [] := by simp
    simp only [List.forall_mem_cons]
    exact ⟨next_statusAnswer rfl empty, next_statusAnswer rfl empty, next_statusAnswer rfl empty,
      next_statusAnswer rfl empty, fun _ h => nomatch h⟩
  case anyParameters =>
    simp only [List.forall_mem_cons]
    exact ⟨next_of_counted rfl, next_of_counted rfl, fun _ h => nomatch h⟩

/-! ### The commands of the registers and of the controller's own data -/

/-- Settles O38: each handler is one record update with the status answer, by definition. -/
theorem registerCommands : Obligations.RegisterCommands := fun _ =>
  ⟨fun params present => next_of_present params present,
    fun params => next_of_counted params,
    fun params => next_of_counted params,
    fun f c params => next_of_counted (p := [f, c]) params,
    fun m params => next_of_counted (p := [m]) params⟩

theorem countOk_test (b : Byte) (rest : List Byte) : countOk 0x19 (b :: rest).length = true := by simp [countOk]

theorem handleTest_version (rest : List Byte) (s : State) :
    handleTest (0x20 :: rest) s = (Answer.good s.cfg.test20Bytes .ack, s) := if_pos rfl

theorem handleTest_other {b : Byte} (other : b ≠ 0x20) (rest : List Byte) (s : State) :
    handleTest (b :: rest) s = (Answer.err s errValue, s) := if_neg other

/-- Settles O39: the answers as the handlers build them; Test by its sub-function. -/
theorem dataCommands : Obligations.DataCommands := by
  intro s
  refine ⟨fun params => next_of_counted params, fun params => next_of_counted params, ?version, ?other,
    fun params present => next_of_present params present⟩
  case version =>
    intro rest params
    refine (next_of_counted params (countOk_test _ _)).trans ?_
    rw [handleTest_version, conclude_settle_good]
  case other =>
    intro b rest params other
    refine (next_of_counted params (countOk_test _ _)).trans ?_
    rw [handleTest_other other, conclude_settle_err]
    rfl

/-! ### The table of contents and the position (43_commands.md R201, R203, R204) -/

section Contents

variable {s : State} {first last t : Nat}

theorem handleGetTN_eq (tracks : s.backend.tracks = (first, last)) (p : List Byte) :
    handleGetTN p s = (Answer.good [s.statP, bcd first, bcd last] .ack, s.queried) := by
  simp only [handleGetTN, State.askTracks, tracks]

theorem handleGetTD_of_not_bcd {b : Byte} (invalid : validBcd b = false) :
    handleGetTD [b] s = (Answer.err s errValue, s) := if_neg (ne_true_of_eq_false invalid)

theorem handleGetTD_of_bcd {b : Byte} (valid : validBcd b = true) : handleGetTD [b] s = trackStartAnswer (unbcd b) s :=
  if_pos valid

theorem trackStartAnswer_of_bad (tracks : s.backend.tracks = (first, last)) (bad : last < t ∨ (t ≠ 0 ∧ t < first)) :
    trackStartAnswer t s = (Answer.err s errValue, s.queried) := by
  simp [trackStartAnswer, State.askTracks, tracks, bad]

theorem trackStartAnswer_of_good (tracks : s.backend.tracks = (first, last)) (high : t ≤ last)
    (low : t = 0 ∨ first ≤ t) : trackStartAnswer t s =
      (Answer.good [s.statP, bcd (s.queried.backend.start t).m.val, bcd (s.queried.backend.start t).s.val] .ack,
        s.queried.queried) := by
  have good : ¬ (last < t ∨ (t ≠ 0 ∧ t < first)) := by omega
  simp [trackStartAnswer, State.askTracks, State.askStart, tracks, good]

theorem handleGetlocP_eq {u : State} (tracked : trackOf s.cur s = (t, u)) (p : List Byte) : handleGetlocP p s =
    (Answer.good (locationBytes t (u.backend.start t) s.cur) .ack, u.queried) := by
  simp only [handleGetlocP, tracked, State.askStart]

end Contents

/-- Settles O40: the range as the backend answers it, and a track's start if the track is in the range or the
lead-out. -/
theorem trackTableCommands : Obligations.TrackTableCommands := by
  intro s present first last tracks
  refine ⟨?getTN, ?notBcd, ?bad, ?good⟩
  case getTN =>
    intro params
    refine (next_of_present params present).trans ?_
    rw [handleGetTN_eq tracks, conclude_settle_good]
    rfl
  case notBcd =>
    intro b params invalid
    refine (next_of_present params present).trans ?_
    rw [handleGetTD_of_not_bcd invalid, conclude_settle_err]
    rfl
  case bad =>
    intro b params valid bad
    refine (next_of_present params present).trans ?_
    rw [handleGetTD_of_bcd valid, trackStartAnswer_of_bad tracks bad, conclude_settle_err_queried]
    rfl
  case good =>
    intro b params valid high low
    refine (next_of_present params present).trans ?_
    rw [handleGetTD_of_bcd valid, trackStartAnswer_of_good tracks high low, conclude_settle_good]
    rfl

/-- Settles O41: the response for the track that `TrackOf` answers and the start asked for next. -/
theorem getlocPReportsPosition : Obligations.GetlocPReportsPosition := by
  rintro s params present t u tracked _ rfl
  refine (next_of_present params present).trans ?_
  rw [handleGetlocP_eq (s := s.queried) tracked, conclude_settle_good]
  rfl

/-! ### The two-phase commands and Reset (43_commands.md R192 to R194, R212, R214; 70_reset_and_hazards.md R331) -/

/-- Settles O42: each handler is its record update with the two-phase answer. -/
theorem twoPhaseCommandsAcknowledge : Obligations.TwoPhaseCommandsAcknowledge := by
  intro s params
  refine ⟨(next_of_counted params).trans ?stop, (next_of_counted params).trans ?pause,
    (next_of_counted params).trans ?init, fun present => (next_of_present params present).trans ?readTOC⟩
  case stop | pause | init | readTOC => exact congrArg _ (conclude_settle_twoPhase _ _ _)

/-- Settles O43: the drive reset with `stat_p` zero and the drive Idle, by definition. -/
theorem resetCommandResetsDrive : Obligations.ResetCommandResetsDrive := fun _ params => next_of_counted params

end Sys2Proof.Machine
end

section
/-! SUPPORT and the settlements of O33 to O37: Setloc, and the commands that start a play, read or seek session. First
each of the drive's operations as one record update (42_seek.md R166, R167, R169; 44_sector_pipeline.md R261, R265). -/

namespace Sys2Proof.Machine

/-! ### Bits of `stat_p` -/

/-- Setting bits before others are cleared is setting them after, when none of them is cleared. -/
theorem set_clear {set late : Byte} (kept : set &&& ~~~late = set) (v : Byte) :
    (v ||| set) &&& ~~~late = v &&& ~~~late ||| set := by
  rw [BitVec.and_or_distrib_right, kept]

/-- Bits that are cleared again later need no clearing before. -/
theorem clear_set_clear {early set late : Byte} (within : ~~~early &&& ~~~late = ~~~late)
    (kept : set &&& ~~~late = set) (v : Byte) : (v &&& ~~~early ||| set) &&& ~~~late = v &&& ~~~late ||| set := by
  rw [set_clear kept, BitVec.and_assoc, within]

/-! ### Setloc (42_seek.md R166, 43_commands.md R186) -/

section Setloc

variable {bm bs bf : Byte} {s : State}

theorem handleSetloc_of_bad
    (bad : ¬ (validBcd bm = true ∧ validBcd bs = true ∧ validBcd bf = true ∧ unbcd bs < 60 ∧ unbcd bf < 75)) :
    handleSetloc [bm, bs, bf] s = (Answer.err s errValue, s) := by
  unfold handleSetloc
  split_ifs with digits range
  · rfl
  · have good : validBcd bm = true ∧ validBcd bs = true ∧ validBcd bf = true ∧ unbcd bs < 60 ∧ unbcd bf < 75 := by
      simpa [param, and_assoc] using And.intro digits range
    exact absurd good bad
  · rfl

theorem handleSetloc_of_position (p : Msf) :
    handleSetloc [bcd p.m.val, bcd p.s.val, bcd p.f.val] s = statusAnswer (computeSeek p s) := by
  have m_lt := p.m.isLt
  have s_lt : p.s.val < 100 := by omega
  have f_lt : p.f.val < 100 := by omega
  have in_range : ¬ (60 ≤ p.s.val ∨ 75 ≤ p.f.val) := by omega
  simp [handleSetloc, param, validBcd_bcd, unbcd_bcd, m_lt, s_lt, f_lt, in_range, msfOfNats_self]

end Setloc

/-- Settles O33: the count check, then the three bytes as a position or an error. -/
theorem setlocSetsTarget : Obligations.SetlocSetsTarget := by
  intro s p bm bs bf
  refine ⟨?position, ?bad, ?count⟩
  case position =>
    intro params
    refine (next_of_counted params).trans ?_
    rw [handleSetloc_of_position, conclude_settle_statusAnswer]
    rfl
  case bad =>
    intro params bad
    refine (next_of_counted params).trans ?_
    rw [handleSetloc_of_bad bad, conclude_settle_err]
    rfl
  case count =>
    intro wrong
    exact congrArg _ (runCommand_of_wrong_count (by simpa [countOk] using wrong))

/-! ### The start of a play, read or seek session -/

section Sessions

variable (s : State)

/-- The position a read or play starts from: the target of a pending SetLoc or of a running seek, else the position of
now (42_seek.md R169). -/
def State.snapped (s : State) : Msf :=
  if s.setlocPending = true ∨ s.drive = .seekingLogical ∨ s.drive = .seekingPhysical then s.target else s.cur

theorem snapSeek_eq : snapSeek s =
    { s with cur := s.snapped, setlocPending := false, statP := s.statP &&& ~~~statSeeking } := by
  simp [snapSeek, State.snapped, State.statClear, or_assoc]

/-- `StartPlay` after the snap, from a position (44_sector_pipeline.md R265). -/
theorem startPlay_snapSeek (p : Msf) : startPlay { snapSeek s with cur := p } = { s with
    cur := p
    setlocPending := false
    driveGen := s.driveGen + 1
    drive := .playing
    reportCount := 0
    statP := s.statP &&& ~~~(0x60 : Byte) ||| 0x82 }.schedule s.cfg.sectorPeriod1x .playSector (s.driveGen + 1) := by
  have stat : (s.statP &&& ~~~statSeeking ||| (statPlaying ||| statSpinning)) &&& ~~~(statReading ||| statSeeking) =
      s.statP &&& ~~~(0x60 : Byte) ||| 0x82 := clear_set_clear (by decide) (by decide) s.statP
  rw [← stat]
  rfl

theorem startPlay_snapped : startPlay (snapSeek s) = startPlay { snapSeek s with cur := s.snapped } := by
  rw [snapSeek_eq]

theorem sectorPeriod_eq (c : Config) (mode : Byte) :
    sectorPeriod c mode = if mode.getLsbD 7 = true then c.sectorPeriod2x else c.sectorPeriod1x := by
  rw [← hasBit_twoPow mode (by decide : 7 < 8)]
  rfl

/-- `BeginRead` after the snap (44_sector_pipeline.md R261). -/
theorem beginRead_snapSeek : beginRead (snapSeek s) = { s with
    cur := s.snapped
    setlocPending := false
    driveGen := s.driveGen + 1
    drive := .reading
    statP := s.statP &&& ~~~(0xC0 : Byte) ||| 0x22 }.schedule
      (if s.mode.getLsbD 7 = true then s.cfg.sectorPeriod2x else s.cfg.sectorPeriod1x) .sectorRead
      (s.driveGen + 1) := by
  have stat : (s.statP &&& ~~~statSeeking ||| (statReading ||| statSpinning)) &&& ~~~(statPlaying ||| statSeeking) =
      s.statP &&& ~~~(0xC0 : Byte) ||| 0x22 := clear_set_clear (by decide) (by decide) s.statP
  rw [← stat, ← sectorPeriod_eq, snapSeek_eq]
  rfl

/-- The descriptor a seek starts with: that of a pending SetLoc, or one of distance 0 (42_seek.md R167). -/
def State.seekPlan (s : State) : SeekDesc :=
  if s.setlocPending = true then s.seek else { s.seek with dist := 0, cls := .none, ticks := s.cfg.tSeekMin }

theorem seekInPlace_eq : seekInPlace s =
    { s with target := if s.setlocPending = true then s.target else s.cur, seek := s.seekPlan } := by
  unfold seekInPlace State.seekPlan
  split_ifs <;> rfl

/-- `StartSeek` (42_seek.md R167). -/
theorem startSeek_eq (k : DriveState) : startSeek k s = { s with
    target := if s.setlocPending = true then s.target else s.cur
    setlocPending := false
    driveGen := s.driveGen + 1
    drive := k
    statP := s.statP &&& ~~~(0xA0 : Byte) ||| 0x42
    seek := { s.seekPlan with startAt := s.now, doneAt := s.now + s.seekPlan.ticks } }.schedule
      s.seekPlan.ticks .seekDone (s.driveGen + 1) := by
  have stat : (s.statP ||| (statSeeking ||| statSpinning)) &&& ~~~(statReading ||| statPlaying) =
      s.statP &&& ~~~(0xA0 : Byte) ||| 0x42 := set_clear (by decide) s.statP
  rw [startSeek, seekInPlace_eq, ← stat]
  rfl

end Sessions

/-! ### Play (43_commands.md R187) -/

section Play

variable {s : State} {b : Byte}

theorem handlePlay_of_position {p : List Byte} (position : p = [] ∨ p = [0x00]) :
    handlePlay p s = statusAnswer (startPlay (snapSeek s)) := by
  rcases position with rfl | rfl <;> rfl

theorem handlePlay_of_bcd (named : b ≠ 0x00) (valid : validBcd b = true) : handlePlay [b] s = playTrack (unbcd b) s :=
  (if_pos ⟨rfl, named⟩).trans (if_pos valid)

theorem handlePlay_of_not_bcd (named : b ≠ 0x00) (invalid : validBcd b = false) :
    handlePlay [b] s = (Answer.err s errValue, s) :=
  (if_pos ⟨rfl, named⟩).trans (if_neg (ne_true_of_eq_false invalid))

variable {first last t : Nat}

theorem playTrack_of_outside (tracks : s.backend.tracks = (first, last)) (outside : t < first ∨ last < t) :
    playTrack t s = (Answer.err s errValue, s.queried) := by
  simp [playTrack, State.askTracks, tracks, outside]

theorem playTrack_of_inside (tracks : s.backend.tracks = (first, last)) (low : first ≤ t) (high : t ≤ last) :
    playTrack t s = statusAnswer
      (startPlay { snapSeek s.queried.queried with cur := s.queried.backend.start t }) := by
  have inside : ¬ (t < first ∨ last < t) := by omega
  simp only [playTrack, State.askTracks, tracks, Bool.or_eq_true, decide_eq_true_eq, inside, if_false]
  rfl

end Play

theorem countOk_play {p : List Byte} (position : p = [] ∨ p = [0x00]) : countOk 0x03 p.length = true := by
  rcases position with rfl | rfl <;> rfl

/-- Settles O34: the snapped position, then the start of play. -/
theorem playFromPosition : Obligations.PlayFromPosition := by
  intro s position present
  refine (next_of_present rfl present (countOk_play position)).trans ?_
  rw [handlePlay_of_position position, startPlay_snapped, startPlay_snapSeek, conclude_settle_statusAnswer]
  rfl

/-- Settles O35: the byte, then the track's place in the disc's range, then the start of play at the track's start. -/
theorem playOfTrack : Obligations.PlayOfTrack := by
  intro s b params named present
  refine ⟨?notBcd, fun valid first last tracks => ⟨?outside, ?inside⟩⟩
  case notBcd =>
    intro invalid
    refine (next_of_present params present).trans ?_
    rw [handlePlay_of_not_bcd named invalid, conclude_settle_err]
    rfl
  case outside =>
    intro outside
    refine (next_of_present params present).trans ?_
    rw [handlePlay_of_bcd named valid, playTrack_of_outside tracks outside, conclude_settle_err_queried]
    rfl
  case inside =>
    intro low high
    refine (next_of_present params present).trans ?_
    rw [handlePlay_of_bcd named valid, playTrack_of_inside tracks low high, startPlay_snapSeek,
      conclude_settle_statusAnswer]
    rfl

/-! ### ReadN, ReadS, SeekL and SeekP (43_commands.md R190, R205, R206, R211) -/

/-- Settles O36: for both commands, the snap and the start of reading. -/
theorem readCommandsStartReading : Obligations.ReadCommandsStartReading := by
  intro s params present
  simp only [List.forall_mem_cons]
  refine ⟨(next_of_present params present).trans ?readN, (next_of_present params present).trans ?readS,
    fun _ h => nomatch h⟩
  case readN =>
    rw [handleReadN, beginRead_snapSeek, conclude_settle_statusAnswer]
    rfl
  case readS =>
    rw [handleReadS, beginRead_snapSeek, conclude_settle_statusAnswer]
    rfl

/-- Settles O37: the two commands differ in the drive state they start the seek in. -/
theorem seekCommandsStartSeek : Obligations.SeekCommandsStartSeek := by
  intro s params present
  simp only [List.forall_mem_cons]
  refine ⟨?seekL, ?seekP, fun _ h => nomatch h⟩
  case seekL =>
    rintro _ rfl
    refine (next_of_present params present).trans ?_
    rw [handleSeekL, startSeek_eq, conclude_settle_statusAnswer]
    rfl
  case seekP =>
    rintro _ rfl
    refine (next_of_present params present).trans ?_
    rw [handleSeekP, startSeek_eq, conclude_settle_statusAnswer]
    rfl

end Sys2Proof.Machine
end

section
/-! SUPPORT and the settlements of O44 to O47. The two queries for the sector at the position (44_sector_pipeline.md R262,
R266) and what a live SECTOR_READ or PLAY_SECTOR makes of each answer: one equation per branch. -/

namespace Sys2Proof.Machine

/-! ### Asking for the sector at the position -/

section Asking

variable {s u : State}

theorem State.askSector_of_present (present : s.backend.present = true) :
    s.askSector = (s.queried.backend.read s.cur, s.queried.queried) := if_pos present

theorem State.askAudio_of_present (present : s.backend.present = true) :
    s.askAudio = (s.queried.backend.readAudio s.cur, s.queried.queried) := if_pos present

/-- A read fails when no disc is present, or when the backend fails on the sector. -/
theorem State.askSector_of_failure (failed : (s.backend.present = false ∧ u = s.queried) ∨
    (s.backend.present = true ∧ s.queried.backend.read s.cur = none ∧ u = s.queried.queried)) :
    s.askSector = (none, u) := by
  rcases failed with ⟨absent, rfl⟩ | ⟨present, failed, rfl⟩
  · exact if_neg (ne_true_of_eq_false absent)
  · rw [State.askSector_of_present present, failed]

/-- A play sector fails in the same two cases. -/
theorem State.askAudio_of_failure (failed : (s.backend.present = false ∧ u = s.queried) ∨
    (s.backend.present = true ∧ s.queried.backend.readAudio s.cur = none ∧ u = s.queried.queried)) :
    s.askAudio = (none, u) := by
  rcases failed with ⟨absent, rfl⟩ | ⟨present, failed, rfl⟩
  · exact if_neg (ne_true_of_eq_false absent)
  · rw [State.askAudio_of_present present, failed]

end Asking

/-- `ReadFail` (44_sector_pipeline.md R263). -/
theorem readFail_eq (s : State) : readFail s = { s with
    statP := s.statP &&& ~~~(0xA0 : Byte) ||| 0x01
    drive := .error
    driveGen := s.driveGen + 1 }.respond [s.statP &&& ~~~(0xA0 : Byte) ||| 0x01, 0x80] .diskError := by
  have stat : (s.statP ||| statError) &&& ~~~(statReading ||| statPlaying) = s.statP &&& ~~~(0xA0 : Byte) ||| 0x01 :=
    set_clear (by decide) s.statP
  rw [← stat]
  rfl

/-! ### Reading (44_sector_pipeline.md R262) -/

section Reading

variable {s u : State}

theorem sectorRead_of_pending (reading : s.drive = .reading) (pending : s.latch.pending = true) :
    exec (.sectorRead s.driveGen) s = .next (s.defer .sectorRead s.driveGen) := by
  simp [exec, execSectorRead, reading, pending]

theorem sectorRead_of_failure (reading : s.drive = .reading) (clear : s.latch.pending = false)
    (asked : s.askSector = (none, u)) : exec (.sectorRead s.driveGen) s = .next (readFail u) := by
  simp [exec, execSectorRead, reading, clear, asked]

theorem sectorRead_of_image (reading : s.drive = .reading) (clear : s.latch.pending = false) {image : List Byte}
    (asked : s.askSector = (some image, u)) :
    exec (.sectorRead s.driveGen) s = .next (deliverSector s.driveGen image u) := by
  simp [exec, execSectorRead, reading, clear, asked]

end Reading

/-- The sector's delivery, with the period of the mode. -/
theorem deliverSector_schedules (gen : Nat) (image : List Byte) (s : State) : deliverSector gen image s =
    { { s with
        xfer := Xfer.holding s.cfg.sectorBytes image
        lastHdr := headerBytes s.cfg.sectorBytes image }.respond [s.statP] .dataReady with
      cur := advance s.cur }.schedule
        (if s.mode.getLsbD 7 = true then s.cfg.sectorPeriod2x else s.cfg.sectorPeriod1x) .sectorRead gen := by
  simp only [deliverSector, sectorPeriod_eq, State.respond_cfg, State.respond_mode, State.respond_cur]

@[simp] theorem length_headerBytes (n : Nat) (image : List Byte) : (headerBytes n image).length = 8 := by
  simp [headerBytes]

theorem headerBytes_getD (n : Nat) (image : List Byte) {k : Nat} (lt : k < 8) :
    (headerBytes n image).getD k 0x00 = imageByte image n (12 + k) := by
  simp [headerBytes, lt]

/-- Settles O44: the image goes to the buffer and its header to GetlocL, or the read fails. -/
theorem sectorDelivery : Obligations.SectorDelivery := by
  intro s reading clear
  refine ⟨fun image present image_read => ?delivered, fun u failed => ?failed⟩
  case delivered =>
    have asked : s.askSector = (some image, s.queried.queried) := by
      rw [State.askSector_of_present present, image_read]
    refine ⟨Xfer.holding s.cfg.sectorBytes image, headerBytes s.cfg.sectorBytes image, ?_, rfl, rfl, rfl,
      Xfer.holding_read _ image, length_headerBytes _ image, fun k lt => ?_⟩
    · rw [sectorRead_of_image reading clear asked, deliverSector_schedules]
      rfl
    · rw [headerBytes_getD _ image lt, Xfer.holding_read]
  case failed =>
    rw [sectorRead_of_failure reading clear (State.askSector_of_failure failed), readFail_eq]
    rcases failed with ⟨_, rfl⟩ | ⟨_, _, rfl⟩ <;> rfl

/-! ### Playing (44_sector_pipeline.md R266, R267, R270) -/

section Playing

variable {s u v : State} {a : Pcm} {ended : Bool}

theorem playSector_of_playing (playing : s.drive = .playing) :
    exec (.playSector s.driveGen) s = .next (playSectorLive s.driveGen s) := by
  simp [exec, execPlaySector, playing]

theorem playSectorLive_of_failure (g : Nat) (asked : s.askAudio = (none, u)) : playSectorLive g s =
    if s.latch.pending = true then u.defer .playSector g else readFail u := by
  simp [playSectorLive, asked]

/-- Whether the track ends is asked before the report; either is put off while an interrupt is pending. -/
theorem playSectorLive_of_audio (g : Nat) (asked : s.askAudio = (some a, v)) (due : autoPauseDue v = (ended, u)) :
    playSectorLive g s =
      if (ended = true ∨ reportDue s = true) ∧ s.latch.pending = true then u.defer .playSector g
      else playOn g a ended (!ended && reportDue s) u := by
  cases ended <;> simp [playSectorLive, asked, due]

/-- The track is asked for with AUTOPAUSE set only. -/
theorem autoPauseDue_eq (s : State) :
    autoPauseDue s = if s.mode.getLsbD 1 = true then endOfTrack s.cur s else (false, s) := by
  rw [← hasBit_twoPow s.mode (by decide : 1 < 8)]
  rfl

theorem autoPauseDue_of_set (set : s.mode.getLsbD 1 = true) : autoPauseDue s = endOfTrack s.cur s := by
  rw [autoPauseDue_eq, if_pos set]

theorem autoPauseDue_of_not_ended (going : (s.mode.getLsbD 1 = false ∧ u = s) ∨
    (s.mode.getLsbD 1 = true ∧ endOfTrack s.cur s = (false, u))) : autoPauseDue s = (false, u) := by
  rcases going with ⟨clear, rfl⟩ | ⟨set, going⟩
  · rw [autoPauseDue_eq, if_neg (ne_true_of_eq_false clear)]
  · rw [autoPauseDue_of_set set, going]

theorem exists_backend_of_autoPauseDue (due : autoPauseDue s = (ended, u)) :
    ∃ b : Backend, u = { s with backend := b } := by
  have state := autoPauseDue_state s
  rwa [due] at state

theorem reportDue_iff (s : State) :
    reportDue s = true ↔ s.mode.getLsbD 2 = true ∧ (s.reportCount + 1) % s.cfg.reportN = 0 := by
  have mask : hasBit s.mode modeReport = s.mode.getLsbD 2 := hasBit_twoPow s.mode (n := 2) (by decide)
  simp [reportDue, mask]

theorem playedSector_eq (a : Pcm) (s : State) : playedSector a s = { s with
    out := { s.out with audio := if s.muted = true then s.out.audio else some a }
    cur := advance s.cur
    reportCount := (s.reportCount + 1) % s.cfg.reportN } := by
  rw [playedSector, audioOut_eq]

theorem playOn_ended (g : Nat) (a : Pcm) (report : Bool) (s : State) :
    playOn g a true report s = autoPause (playedSector a s) := rfl

theorem playOn_silent (g : Nat) (a : Pcm) (s : State) : playOn g a false false s =
    (playedSector a s).schedule (playedSector a s).cfg.sectorPeriod1x .playSector g := rfl

/-- The report goes to the position that was played, on the track asked for after the sector. -/
theorem playOn_reported (g : Nat) {t : Nat} {w : State} (tracked : trackOf s.cur (playedSector a s) = (t, w)) :
    playOn g a false true s =
      (w.respond (reportBytes s.statP t s.cur) .dataReady).schedule s.cfg.sectorPeriod1x .playSector g := by
  have reported : reportedSector a true s = w.respond (reportBytes s.statP t s.cur) .dataReady := by
    rw [reportedSector, if_pos rfl, tracked, playedSector_eq]
  rw [playOn_eq, if_neg Bool.false_ne_true, (reportedSector_keepsParameters s a true).cfg, reported]

end Playing

/-- Settles O45: nothing to defer, so the sector is played. -/
theorem playSectorWithoutInterrupt : Obligations.PlaySectorWithoutInterrupt := by
  intro s a playing present audio u going no_report
  have asked : s.askAudio = (some a, s.queried.queried) := by rw [State.askAudio_of_present present, audio]
  have due : autoPauseDue s.queried.queried = (false, u) := autoPauseDue_of_not_ended going
  have silent : reportDue s = false := by
    rw [← Bool.not_eq_true, reportDue_iff]
    rintro ⟨set, counted⟩
    rcases no_report with clear | uncounted
    · exact ne_true_of_eq_false clear set
    · exact uncounted counted
  rw [playSector_of_playing playing, playSectorLive_of_audio _ asked due, silent, if_neg (by simp)]
  obtain ⟨b, rfl⟩ := exists_backend_of_autoPauseDue due
  refine congrArg Host.Outcome.next ((playOn_silent _ _ _).trans ?_)
  rw [playedSector_eq]
  rfl

/-- Settles O46: the two ways a play sector raises an interrupt, each with the latch clear and pending. -/
theorem playSectorWithInterrupt : Obligations.PlaySectorWithInterrupt := by
  rintro s a playing present audio _ rfl
  have asked : s.askAudio = (some a, s.queried.queried) := by rw [State.askAudio_of_present present, audio]
  refine ⟨fun set u ends => ?ended, fun set counted u going => ?reported⟩
  case ended =>
    have due : autoPauseDue s.queried.queried = (true, u) :=
      (autoPauseDue_of_set (s := s.queried.queried) set).trans ends
    rw [playSector_of_playing playing, playSectorLive_of_audio _ asked due]
    obtain ⟨b, rfl⟩ := exists_backend_of_autoPauseDue due
    refine ⟨fun clear => ?_, fun pending => ?_⟩
    · rw [if_neg (by simp [clear]), playOn_ended, playedSector_eq]
      rfl
    · rw [if_pos ⟨.inl rfl, pending⟩]
      rfl
  case reported =>
    have due : autoPauseDue s.queried.queried = (false, u) := autoPauseDue_of_not_ended going
    have report : reportDue s = true := (reportDue_iff s).mpr ⟨set, counted⟩
    rw [playSector_of_playing playing, playSectorLive_of_audio _ asked due, report]
    obtain ⟨b, rfl⟩ := exists_backend_of_autoPauseDue due
    refine ⟨fun clear t w tracked => ?_, fun pending => ?_⟩
    · rw [if_neg (by simp [clear])]
      refine congrArg Host.Outcome.next (playOn_reported _ ?_)
      rw [playedSector_eq]
      exact tracked
    · rw [if_pos ⟨.inr rfl, pending⟩]
      rfl

/-- Settles O47: the failed query, with the latch clear and pending. -/
theorem playFailure : Obligations.PlayFailure := by
  intro s playing u failed
  rw [playSector_of_playing playing, playSectorLive_of_failure _ (State.askAudio_of_failure failed), readFail_eq]
  rcases failed with ⟨_, rfl⟩ | ⟨_, _, rfl⟩
  all_goals
    refine ⟨fun clear => ?_, fun pending => ?_⟩
    · rw [if_neg (ne_true_of_eq_false clear)]
      rfl
    · rw [if_pos pending]
      rfl

end Sys2Proof.Machine
end

section
/-! SUPPORT and the settlement of O56. `DriveEvents` takes the three counts of `DriveSession` together and says which
drive event is awaited, apart from the drive's state, so that it can be spoken of between the firing of the awaited event
and the next drive state (44_sector_pipeline.md R264(a); 45_irq_scheduler.md R285, R286); `DriveLive` is that with the
event which the drive's state awaits. The rest of `DriveSession`, the drive states of the halting commands, says that
their second phase finds no event live. -/

namespace Sys2Proof.Machine

/-! ### The awaited drive event -/

/-- The drive event a drive state waits for (44_sector_pipeline.md R264(a)). -/
def DriveState.awaited : DriveState → Option EventKind
  | .seekingPhysical | .seekingLogical => some .seekDone
  | .reading => some .sectorRead
  | .playing => some .playSector
  | .idle | .openingShell | .resetting | .spinningUp | .pausing | .stopping | .error => none

/-- Of the drive events the awaited one is pending with the current generation, once, and none is ahead. -/
structure DriveEvents (awaited : Option EventKind) (s : State) : Prop where
  pending : ∀ k : EventKind, k.isDrive = true → s.pendingCount k s.driveGen = if awaited = some k then 1 else 0
  notAhead : ∀ e ∈ s.queue.events, e.kind.isDrive = true → e.gen ≤ s.driveGen

/-- The drive event pending is the one that the drive's state waits for. -/
def DriveLive (s : State) : Prop := DriveEvents s.drive.awaited s

/-- The drive state between the two phases of Stop, Pause and Init (43_commands.md R192 to R194). -/
structure HaltedFor (op : Byte) (k : DriveState) : Prop where
  stopping : op = 0x08 → k = .stopping
  pausing : op = 0x09 → k = .pausing
  resetting : op = 0x0A → k = .resetting

theorem DriveState.awaited_eq_seekDone {k : DriveState} :
    k.awaited = some .seekDone ↔ k = .seekingLogical ∨ k = .seekingPhysical := by cases k <;> decide

theorem DriveState.awaited_eq_sectorRead {k : DriveState} : k.awaited = some .sectorRead ↔ k = .reading := by
  cases k <;> decide

theorem DriveState.awaited_eq_playSector {k : DriveState} : k.awaited = some .playSector ↔ k = .playing := by
  cases k <;> decide

/-- The drive awaits no event in the state of a halting command, so a drive that awaits one runs none of the three. -/
theorem HaltedFor.of_awaiting {op : Byte} {k : DriveState} {event : EventKind} (h : HaltedFor op k)
    (awaiting : k.awaited = some event) (k' : DriveState) : HaltedFor op k' where
  stopping is := by cases h.stopping is; cases awaiting
  pausing is := by cases h.pausing is; cases awaiting
  resetting is := by cases h.resetting is; cases awaiting

theorem driveSession_iff {s : State} :
    DriveSession s ↔ DriveLive s ∧ (s.phase = .secondResponse → HaltedFor s.curOp s.drive) := by
  constructor
  · rintro ⟨seekPending, readPending, playPending, notAhead, stopping, pausing, resetting⟩
    refine ⟨⟨fun k drive => ?_, notAhead⟩, fun second => ⟨stopping second, pausing second, resetting second⟩⟩
    cases k with
    | seekDone => simpa only [DriveState.awaited_eq_seekDone] using seekPending
    | sectorRead => simpa only [DriveState.awaited_eq_sectorRead] using readPending
    | playSector => simpa only [DriveState.awaited_eq_playSector] using playPending
    | cmdExec | cmdSecond | irqRecheck => cases drive
  · rintro ⟨⟨pending, notAhead⟩, halted⟩
    exact {
      seekPending := by simpa only [DriveState.awaited_eq_seekDone] using pending .seekDone rfl
      readPending := by simpa only [DriveState.awaited_eq_sectorRead] using pending .sectorRead rfl
      playPending := by simpa only [DriveState.awaited_eq_playSector] using pending .playSector rfl
      notAhead := notAhead
      stopping := fun second => (halted second).stopping
      pausing := fun second => (halted second).pausing
      resetting := fun second => (halted second).resetting }

namespace DriveEvents

variable {awaited : Option EventKind} {s t : State}

theorem same (h : DriveEvents awaited s) (gen : t.driveGen = s.driveGen) (queue : t.queue = s.queue) :
    DriveEvents awaited t where
  pending k drive := by rw [State.pendingCount, queue, gen]; exact h.pending k drive
  notAhead := by rw [queue, gen]; exact h.notAhead

/-- Submitting an event that is not the drive's. -/
theorem schedule_foreign (h : DriveEvents awaited s) (delta : Nat) {kind : EventKind} (gen : Nat)
    (foreign : kind.isDrive = false) : DriveEvents awaited (s.schedule delta kind gen) where
  pending k drive := by
    have other : ¬ (kind = k ∧ gen = s.driveGen) := by
      rintro ⟨rfl, _⟩
      exact ne_true_of_eq_false foreign drive
    rw [State.pendingCount_schedule, State.schedule_driveGen, if_neg other, Nat.add_zero, h.pending k drive]
  notAhead := by simpa [or_imp, forall_and, foreign] using h.notAhead

/-- The current session's event is submitted where none is awaited. -/
theorem schedule (h : DriveEvents none s) (delta : Nat) (kind : EventKind) {gen : Nat} (current : gen = s.driveGen) :
    DriveEvents (some kind) (s.schedule delta kind gen) where
  pending k drive := by
    rw [State.pendingCount_schedule, State.schedule_driveGen, h.pending k drive]
    simp [current]
  notAhead := by simpa [or_imp, forall_and, current] using h.notAhead

/-- A new generation leaves the events before it stale. -/
theorem renewed (h : DriveEvents awaited s) (gen : t.driveGen = s.driveGen + 1) (queue : t.queue = s.queue) :
    DriveEvents none t where
  pending k drive := by
    refine List.countP_eq_zero.mpr fun e mem => ?_
    rw [queue] at mem
    simp only [Bool.and_eq_true, beq_iff_eq, not_and]
    rintro rfl
    have := h.notAhead e mem drive
    omega
  notAhead e mem drive := by
    rw [queue] at mem
    have := h.notAhead e mem drive
    omega

/-- An event that is not of the current drive session leaves the queue. -/
theorem firing_foreign (h : DriveEvents awaited s) {e : Event} (pending : e ∈ s.queue.events)
    (foreign : e.kind.isDrive = true → e.gen ≠ s.driveGen) : DriveEvents awaited (s.firing e) where
  pending k drive := by
    have other : ¬ (e.kind = k ∧ e.gen = s.driveGen) := fun ⟨kind, gen⟩ => foreign (kind ▸ drive) gen
    rw [State.pendingCount_firing _ _ _ pending, State.firing_driveGen, if_neg other, Nat.sub_zero, h.pending k drive]
  notAhead o mem := h.notAhead o (List.mem_of_mem_erase mem)

/-- A drive event of the current session is the awaited one, and none is awaited once it is fired. -/
theorem firing_live (h : DriveEvents awaited s) {e : Event} (pending : e ∈ s.queue.events)
    (drive : e.kind.isDrive = true) (live : e.gen = s.driveGen) :
    awaited = some e.kind ∧ DriveEvents none (s.firing e) := by
  have here : awaited = some e.kind := by
    by_contra other
    have count := s.pendingCount_pos pending
    rw [live, h.pending e.kind drive, if_neg other] at count
    exact count.false
  refine ⟨here, fun k drive => ?_, fun o mem => h.notAhead o (List.mem_of_mem_erase mem)⟩
  rw [State.pendingCount_firing _ _ _ pending, State.firing_driveGen, h.pending k drive, here]
  simp [live]

/-- The session ends: the drive's state comes to await no event. -/
theorem ended (h : DriveEvents none s) (gen : t.driveGen = s.driveGen) (queue : t.queue = s.queue)
    (none_awaited : t.drive.awaited = none) : DriveLive t := by
  rw [DriveLive, none_awaited]
  exact h.same gen queue

/-- The session goes on: the event that the drive's state awaits is submitted. -/
theorem resumed (h : DriveEvents none s) {kind : EventKind} (awaits : s.drive.awaited = some kind) (delta : Nat)
    {gen : Nat} (current : gen = s.driveGen) : DriveLive (s.schedule delta kind gen) := by
  rw [DriveLive, State.schedule_drive, awaits]
  exact h.schedule delta kind current

/-- A new session without an event. -/
theorem halting (h : DriveEvents awaited s) (gen : t.driveGen = s.driveGen + 1) (queue : t.queue = s.queue)
    (none_awaited : t.drive.awaited = none) : DriveLive t :=
  (h.renewed gen queue).ended rfl rfl none_awaited

/-- A new session with the event that its drive state awaits. -/
theorem starting (h : DriveEvents awaited s) {delta : Nat} {kind : EventKind} (gen : t.driveGen = s.driveGen + 1)
    (queue : t.queue = (s.schedule delta kind (s.driveGen + 1)).queue) (awaits : t.drive.awaited = some kind) :
    DriveLive t := by
  have renewed : DriveEvents none { s with driveGen := s.driveGen + 1 } := h.renewed rfl rfl
  rw [DriveLive, awaits]
  exact (renewed.schedule delta kind rfl).same gen queue

end DriveEvents

/-! ### What keeps the drive session -/

/-- The drive's state and generation are the same, and so are its pending events, whichever is awaited. -/
structure KeepsDrive (s t : State) : Prop where
  drive : t.drive = s.drive
  gen : t.driveGen = s.driveGen
  events : ∀ awaited, DriveEvents awaited s → DriveEvents awaited t

/-- What the drive session rests on (45_irq_scheduler.md R281, R285). -/
def State.driveSession (s : State) : DriveState × Nat × EventQueue := (s.drive, s.driveGen, s.queue)

namespace KeepsDrive

variable {s t u : State}

theorem same (h : t.driveSession = s.driveSession) : KeepsDrive s t := by
  simp only [State.driveSession, Prod.mk.injEq] at h
  obtain ⟨drive, gen, queue⟩ := h
  exact ⟨drive, gen, fun _ events => events.same gen queue⟩

theorem unchanged (s : State) : KeepsDrive s s := same rfl

theorem trans (first : KeepsDrive s t) (second : KeepsDrive t u) : KeepsDrive s u where
  drive := second.drive.trans first.drive
  gen := second.gen.trans first.gen
  events awaited := second.events awaited ∘ first.events awaited

/-- Queries to the backend; `trackOf_state` and its like give the hypothesis. -/
theorem of_backend (h : ∃ b : Backend, t = { s with backend := b }) : KeepsDrive s t := by
  obtain ⟨b, rfl⟩ := h
  exact same rfl

theorem schedule (h : KeepsDrive s t) (delta : Nat) {kind : EventKind} (gen : Nat) (foreign : kind.isDrive = false) :
    KeepsDrive s (t.schedule delta kind gen) :=
  h.trans ⟨rfl, rfl, fun _ events => events.schedule_foreign delta gen foreign⟩

theorem respond (h : KeepsDrive s t) (bytes : List Byte) (type : IrqType) : KeepsDrive s (t.respond bytes type) :=
  (h.schedule (recheckDelay t.cfg type) (kind := .irqRecheck) 0 rfl).trans
    (same (by simp [State.driveSession]))

end KeepsDrive

open KeepsDrive

namespace DriveLive

variable {s t : State}

theorem kept (h : DriveLive s) (keeps : KeepsDrive s t) : DriveLive t := by
  rw [DriveLive, keeps.drive]
  exact keeps.events _ h

theorem respond (h : DriveLive s) (bytes : List Byte) (type : IrqType) : DriveLive (s.respond bytes type) :=
  h.kept ((unchanged s).respond bytes type)

end DriveLive

/-! ### The handlers -/

/-- What a command's checks and handler give: the event that the drive awaits stays the one pending, and a second phase of
Stop, Pause or Init is asked for in its drive state only. -/
structure DriveOutcome (op : Byte) (s : State) (r : Answer × State) : Prop where
  live : DriveLive s → DriveLive r.2
  halted : ∀ d, r.1.second = some d → HaltedFor op r.2.drive

/-- As the handler of an opcode, a handler gives such an outcome, whatever the parameters. -/
def Handler.FitsDrive (op : Byte) (h : Handler) : Prop := ∀ p s, DriveOutcome op s (h p s)

namespace DriveOutcome

variable {op : Byte} {s : State} {r : Answer × State}

/-- An answer without a second phase. -/
theorem single (live : DriveLive s → DriveLive r.2) (none : r.1.second = none) : DriveOutcome op s r :=
  ⟨live, fun _ second => nomatch none.symm.trans second⟩

/-- An answer without a second phase that leaves the drive alone. -/
theorem kept (keeps : KeepsDrive s r.2) (none : r.1.second = none) : DriveOutcome op s r :=
  single (fun live => live.kept keeps) none

theorem after {t : State} (first : KeepsDrive s t) (h : DriveOutcome op t r) : DriveOutcome op s r :=
  ⟨fun live => h.live (live.kept first), h.halted⟩

theorem settle (h : DriveOutcome op s r) : DriveOutcome op s (settle r) := by
  have keeps : KeepsDrive r.2 (if r.1.ok = true then r.2.statClear 0x11 else r.2) := by
    split_ifs <;> exact same rfl
  rw [settle_eq]
  refine ⟨fun live => (h.live live).kept keeps, fun d second => ?_⟩
  rw [keeps.drive]
  exact h.halted d second

end DriveOutcome

open DriveOutcome

theorem dispatch_driveOutcome (op : Byte) {h : Handler} (fits : h.FitsDrive op) (s : State) :
    DriveOutcome op s (dispatch op h s) := by
  have asked : KeepsDrive s s.queried := same rfl
  rw [dispatch_eq]
  split_ifs
  · exact .after asked (fits s.curParams s.queried).settle
  · exact .kept asked rfl
  · exact (fits s.curParams s).settle
  · exact .kept (unchanged s) rfl

section Handlers

variable {op : Byte}

theorem handleSetloc_fitsDrive : Handler.FitsDrive op handleSetloc := by
  intro p s
  unfold handleSetloc
  split_ifs <;> exact .kept (same rfl) rfl

theorem snapSeek_keepsDrive (s : State) : KeepsDrive s (snapSeek s) := same rfl

theorem startPlay_live {s : State} (live : DriveLive s) : DriveLive (startPlay s) := live.starting rfl rfl rfl

theorem playTrack_driveOutcome (t : Nat) (s : State) : DriveOutcome op s (playTrack t s) := by
  unfold playTrack
  dsimp only
  split_ifs
  · exact .kept (same rfl) rfl
  · refine .single (fun live => startPlay_live ?_) rfl
    exact live.kept (same rfl)

theorem handlePlay_fitsDrive : Handler.FitsDrive op handlePlay := by
  intro p s
  unfold handlePlay
  split_ifs
  · exact playTrack_driveOutcome _ s
  · exact .kept (unchanged s) rfl
  · exact .single (fun live => startPlay_live (live.kept (snapSeek_keepsDrive s))) rfl

theorem handleReadN_fitsDrive : Handler.FitsDrive op handleReadN := fun _ s =>
  .single (fun live => (live.kept (snapSeek_keepsDrive s)).starting rfl rfl rfl) rfl

theorem handleGetlocP_fitsDrive : Handler.FitsDrive op handleGetlocP := fun _ s =>
  .kept ((KeepsDrive.of_backend (trackOf_state s.cur s)).trans (same rfl)) rfl

theorem handleSetSession_fitsDrive : Handler.FitsDrive op handleSetSession := by
  intro p s
  unfold handleSetSession
  split_ifs <;> exact .kept (unchanged s) rfl

theorem handleGetTD_fitsDrive : Handler.FitsDrive op handleGetTD := by
  intro p s
  unfold handleGetTD trackStartAnswer
  dsimp only
  split_ifs <;> exact .kept (same rfl) rfl

theorem handleTest_fitsDrive : Handler.FitsDrive op handleTest := by
  intro p s
  unfold handleTest
  split_ifs <;> exact .kept (unchanged s) rfl

/-- SeekL and SeekP start a session in one of the two seeking states. -/
theorem startSeek_fitsDrive {k : DriveState} (seeking : k.awaited = some .seekDone) :
    Handler.FitsDrive op fun _ s => statusAnswer (startSeek k s) := fun _ s =>
  .single (fun live => by
    have inPlace : KeepsDrive s (seekInPlace s) := by
      rw [seekInPlace_eq]
      exact same rfl
    exact (live.kept inPlace).starting rfl rfl seeking) rfl

/-- Stop, Pause and Init end the drive session and leave the drive in the state of their second phase. -/
theorem Handler.FitsDrive.of_halting {h : Handler} {k : DriveState} (drive : ∀ p s, (h p s).2.drive = k)
    (gen : ∀ p s, (h p s).2.driveGen = s.driveGen + 1) (queue : ∀ p s, (h p s).2.queue = s.queue)
    (none_awaited : k.awaited = none) (halted : HaltedFor op k) : h.FitsDrive op := fun p s => {
  live := fun live => live.halting (gen p s) (queue p s) (by rw [drive p s, none_awaited])
  halted := fun _ _ => by rwa [drive p s] }

end Handlers

/-- The handler of every opcode, beside its index in the table. Play, the reads and the seeks start a session, Stop,
Pause, Init and Reset end one, and the others leave the drive alone. -/
theorem handlerTable_fitsDrive : ∀ x ∈ handlerTable.zipIdx, Handler.FitsDrive (BitVec.ofNat 8 x.2) x.1 := by
  have plain {op : Byte} {h : Handler}
      (keeps : ∀ p s, (h p s).2.driveSession = s.driveSession := by exact fun _ _ => rfl)
      (single : ∀ p s, (h p s).1.second = none := by exact fun _ _ => rfl) : h.FitsDrive op :=
    fun p s => .kept (same (keeps p s)) (single p s)
  have halting {op : Byte} {h : Handler} {k : DriveState} (none_awaited : k.awaited = none) (halted : HaltedFor op k)
      (drive : ∀ p s, (h p s).2.drive = k := by exact fun _ _ => rfl)
      (gen : ∀ p s, (h p s).2.driveGen = s.driveGen + 1 := by exact fun _ _ => rfl)
      (queue : ∀ p s, (h p s).2.queue = s.queue := by exact fun _ _ => rfl) : h.FitsDrive op :=
    .of_halting drive gen queue none_awaited halted
  simp only [handlerTable, List.zipIdx_cons, List.zipIdx_nil, List.forall_mem_cons]
  exact ⟨
    -- Sync, Getstat, Setloc, Play, Forward, Backward
    plain, plain, handleSetloc_fitsDrive, handlePlay_fitsDrive, plain, plain,
    -- ReadN, Standby
    handleReadN_fitsDrive, plain,
    -- Stop, Pause, Init
    halting (k := .stopping) rfl ⟨fun _ => rfl, by decide, by decide⟩,
    halting (k := .pausing) rfl ⟨by decide, fun _ => rfl, by decide⟩,
    halting (k := .resetting) rfl ⟨by decide, by decide, fun _ => rfl⟩,
    -- Mute, Demute, Setfilter, Setmode
    plain, plain, plain, plain,
    -- Getparam, GetlocL, GetlocP
    plain, plain, handleGetlocP_fitsDrive,
    -- SetSession, GetTN, GetTD
    handleSetSession_fitsDrive, plain, handleGetTD_fitsDrive,
    -- SeekL, SeekP
    startSeek_fitsDrive rfl, startSeek_fitsDrive rfl,
    -- SetClock, GetClock, Test, GetID
    plain, plain, handleTest_fitsDrive, plain,
    -- ReadS (the handler of ReadN), Reset, GetQ
    handleReadN_fitsDrive, fun _ _ => .single (fun live => live.halting rfl rfl rfl) rfl, plain,
    -- ReadTOC
    fun _ _ => ⟨id, fun _ _ => ⟨nofun, nofun, nofun⟩⟩,
    fun _ h => nomatch h⟩

/-- Every command byte ends in the tail of CMD_EXEC, after checks and a handler of such an outcome. -/
theorem dispatchOpcode_driveOutcome (op : Byte) (s : State) :
    ∃ a u, dispatchOpcode op s = .next (conclude (a, u)) ∧ DriveOutcome op s (a, u) := by
  rw [dispatchOpcode_eq]
  cases found : handlerTable[op.toNat]? with
  | some h =>
    have indexed : (h, op.toNat) ∈ handlerTable.zipIdx := List.mem_zipIdx_iff_getElem?.mpr found
    have fits : h.FitsDrive op := by simpa using handlerTable_fitsDrive _ indexed
    exact ⟨_, _, rfl, dispatch_driveOutcome op fits s⟩
  | none => exact ⟨_, _, rfl, .kept (unchanged s) rfl⟩

theorem dispatchOpcode_curOp {op : Byte} {s t : State} (ran : dispatchOpcode op s = .next t) : t.curOp = s.curOp := by
  obtain ⟨a, u, concluded, outcome⟩ := dispatchOpcode_concludes op s
  obtain rfl : conclude (a, u) = t := Host.Outcome.next.inj (concluded.symm.trans ran)
  have session : u.session = s.session := outcome.kept.session.part
  exact (conclude_pipeline a u).1.trans (congrArg (fun part => part.2.1) session)

/-! ### The command events -/

theorem conclude_keepsDrive (a : Answer) (u : State) : KeepsDrive u (conclude (a, u)) := by
  have responded := (unchanged u).respond a.bytes a.irq
  cases second : a.second with
  | none =>
    rw [conclude_of_single second]
    exact responded.trans (same rfl)
  | some d =>
    rw [conclude_of_second second]
    have phased : KeepsDrive u { u.respond a.bytes a.irq with phase := .secondResponse } := responded.trans (same rfl)
    exact phased.schedule d (kind := .cmdSecond) u.cmdGen rfl

theorem second_of_conclude {a : Answer} {u : State} (waits : (conclude (a, u)).phase = .secondResponse) :
    ∃ d, a.second = some d := by
  cases second : a.second with
  | none => rw [conclude_of_single second] at waits; cases waits
  | some d => exact ⟨d, rfl⟩

/-- The drive is left alone, and no second phase is entered. -/
structure DriveUndisturbed (s t : State) : Prop where
  keeps : KeepsDrive s t
  second : t.phase = .secondResponse → s.phase = .secondResponse ∧ t.curOp = s.curOp

/-- If an outcome has a next state, the drive is undisturbed there. -/
def NextUndisturbed (s : State) (r : StepResult) : Prop := ∀ t, r = .next t → DriveUndisturbed s t

namespace DriveUndisturbed

variable {s t u : State}

/-- The phase and the latched command are as they were. -/
theorem of_phase (keeps : KeepsDrive s t) (phase : t.phase = s.phase) (curOp : t.curOp = s.curOp) :
    DriveUndisturbed s t := ⟨keeps, fun second => ⟨phase.symm.trans second, curOp⟩⟩

theorem same (h : t.driveSession = s.driveSession) (phase : t.phase = s.phase) (curOp : t.curOp = s.curOp) :
    DriveUndisturbed s t := of_phase (.same h) phase curOp

theorem unchanged (s : State) : DriveUndisturbed s s := same rfl rfl rfl

theorem trans (first : DriveUndisturbed s t) (second : DriveUndisturbed t u) : DriveUndisturbed s u where
  keeps := first.keeps.trans second.keeps
  second waits := by
    obtain ⟨waits, curOp⟩ := second.second waits
    exact (first.second waits).imp_right curOp.trans

theorem defer (s : State) {kind : EventKind} (gen : Nat) (foreign : kind.isDrive = false) :
    DriveUndisturbed s (s.defer kind gen) :=
  of_phase ((KeepsDrive.unchanged s).schedule _ gen foreign) rfl rfl

/-- A command starts, in phase Executing (41_command_pipeline.md R141). -/
theorem startCommand (h : KeepsDrive s t) (op : Byte) (params : List Byte) :
    DriveUndisturbed s (t.startCommand op params) where
  keeps := by
    have latched : KeepsDrive s
        { t with curOp := op, curParams := params, phase := .executing, cmdGen := t.cmdGen + 1 } := h.trans (.same rfl)
    exact latched.schedule _ _ rfl
  second := nofun

theorem toNext (h : DriveUndisturbed s t) : NextUndisturbed s (.next t) := by
  rintro _ ⟨⟩
  exact h

end DriveUndisturbed

namespace DriveSession

variable {s t : State}

/-- Outside the second phase only the event counts. -/
theorem of_live (live : DriveLive s) (phase : s.phase ≠ .secondResponse) : DriveSession s :=
  driveSession_iff.mpr ⟨live, fun second => absurd second phase⟩

theorem kept (h : DriveSession s) (undisturbed : DriveUndisturbed s t) : DriveSession t := by
  obtain ⟨live, halted⟩ := driveSession_iff.mp h
  obtain ⟨keeps, second⟩ := undisturbed
  refine driveSession_iff.mpr ⟨live.kept keeps, fun waits => ?_⟩
  obtain ⟨before, curOp⟩ := second waits
  rw [curOp, keeps.drive]
  exact halted before

theorem dispatchOpcode (h : DriveSession s) (ran : dispatchOpcode s.curOp s = .next t) : DriveSession t := by
  have curOp := dispatchOpcode_curOp ran
  obtain ⟨live, _⟩ := driveSession_iff.mp h
  obtain ⟨a, u, concluded, outcome⟩ := dispatchOpcode_driveOutcome s.curOp s
  obtain rfl : conclude (a, u) = t := Host.Outcome.next.inj (concluded.symm.trans ran)
  have keeps := conclude_keepsDrive a u
  refine driveSession_iff.mpr ⟨(outcome.live live).kept keeps, fun waits => ?_⟩
  obtain ⟨d, second⟩ := second_of_conclude waits
  rw [curOp, keeps.drive]
  exact outcome.halted d second

theorem powerOn (cfg : Config) (now : Nat) (inputs : List HostStep) (backend : Backend) :
    DriveSession (State.powerOn cfg now inputs backend) := ⟨rfl, rfl, rfl, nofun, nofun, nofun, nofun⟩

end DriveSession

section CommandEventBodies

variable {s t : State}

/-- The second phase of Stop, Pause and Init finds no event live and leaves the drive Idle; that of ReadTOC leaves the
drive as it was. -/
theorem finish_live (session : DriveSession s) (second : s.phase = .secondResponse)
    (finished : finish s.curOp s = some t) : DriveLive t := by
  obtain ⟨live, halted⟩ := driveSession_iff.mp session
  have idle {u : State} (none_awaited : s.drive.awaited = none) (drive : u.drive = .idle)
      (gen : u.driveGen = s.driveGen) (queue : u.queue = s.queue) : DriveLive u := by
    rw [DriveLive, none_awaited] at live
    exact live.ended gen queue (by rw [drive]; rfl)
  have isSome : (finish s.curOp s).isSome = true := by rw [finished]; rfl
  rcases (finish_isSome s.curOp s).mp isSome with op | op | op | op
  all_goals rw [op] at finished
  · obtain rfl : finishStop s = t := Option.some.inj finished
    exact idle (by rw [(halted second).stopping op]; rfl) rfl rfl rfl
  · obtain rfl : finishPause s = t := Option.some.inj finished
    exact idle (by rw [(halted second).pausing op]; rfl) rfl rfl rfl
  · obtain rfl : finishInit s = t := Option.some.inj finished
    rw [finishInit_eq_queried]
    exact idle (by rw [(halted second).resetting op]; rfl) rfl rfl rfl
  · obtain rfl : finishReadTOC s = t := Option.some.inj finished
    exact live.kept (same rfl)

theorem cmdExec_keepsDriveSession (session : DriveSession s) (g : Nat) (ran : exec (.cmdExec g) s = .next t) :
    DriveSession t := by
  rcases cmdExec_next_cases g s t ran with ⟨rfl, _⟩ | ⟨_, _, ⟨_, rfl⟩ | ⟨_, ran⟩⟩
  · exact session
  · exact session.kept (.defer s g rfl)
  · exact session.dispatchOpcode ran

theorem cmdSecond_keepsDriveSession (session : DriveSession s) (g : Nat) (ran : exec (.cmdSecond g) s = .next t) :
    DriveSession t := by
  simp only [exec, execCmdSecond] at ran
  split_ifs at ran with stale pending
  · cases ran
    exact session
  · cases ran
    exact session.kept (.defer s g rfl)
  · push Not at stale
    cases finished : finish s.curOp s with
    | none => simp [finished] at ran
    | some u =>
      simp only [finished, Host.Outcome.next.injEq] at ran
      subst ran
      have responded := (finish_live session stale.2 finished).respond [u.statP] .complete
      exact .of_live (responded.kept (same rfl)) nofun

end CommandEventBodies

/-! ### The drive events, once the awaited one is fired -/

section DriveEventBodies

variable {s t : State}

theorem finishSeek_live (h : DriveEvents none s) : DriveLive (finishSeek s) := by
  have idle : DriveLive { s.statClear statSeeking with cur := s.target, drive := .idle } :=
    h.ended rfl rfl rfl
  unfold finishSeek
  dsimp only
  split_ifs
  · exact idle.respond _ _
  · exact idle

theorem readFail_live (h : DriveEvents none s) : DriveLive (readFail s) := by
  rw [readFail_eq]
  refine .respond ?_ _ _
  exact h.halting rfl rfl rfl

theorem deliverSector_live (h : DriveEvents none s) (reading : s.drive.awaited = some .sectorRead) {gen : Nat}
    (current : gen = s.driveGen) (image : List Byte) : DriveLive (deliverSector gen image s) := by
  have loaded : KeepsDrive s { s with
      xfer := Xfer.holding s.cfg.sectorBytes image
      lastHdr := headerBytes s.cfg.sectorBytes image } := same rfl
  have moved := (loaded.respond [s.statP] .dataReady).trans
    (same (t := { State.respond [s.statP] .dataReady _ with cur := advance s.cur }) rfl)
  rw [deliverSector_schedules]
  exact (moved.events _ h).resumed (by rw [moved.drive, reading]) _ (current.trans moved.gen.symm)

theorem playedSector_keepsDrive (a : Pcm) (s : State) : KeepsDrive s (playedSector a s) := by
  rw [playedSector_eq]
  exact same rfl

theorem reportedSector_keepsDrive (a : Pcm) (report : Bool) (s : State) :
    KeepsDrive s (reportedSector a report s) := by
  have played := playedSector_keepsDrive a s
  unfold reportedSector
  split_ifs
  · exact (played.trans (.of_backend (trackOf_state _ _))).respond _ _
  · exact played

theorem playOn_live (h : DriveEvents none s) (playing : s.drive.awaited = some .playSector) {gen : Nat}
    (current : gen = s.driveGen) (a : Pcm) (ended report : Bool) : DriveLive (playOn gen a ended report s) := by
  rw [playOn_eq]
  split_ifs
  · have played := (playedSector_keepsDrive a s).events _ h
    refine DriveLive.respond ?_ _ _
    exact played.ended rfl rfl rfl
  · have reported := reportedSector_keepsDrive a report s
    exact (reported.events _ h).resumed (by rw [reported.drive, playing]) _ (current.trans reported.gen.symm)

theorem seekDone_live (h : DriveEvents none s) (awaits : s.drive.awaited = some .seekDone) {g : Nat}
    (current : g = s.driveGen) (ran : exec (.seekDone g) s = .next t) : DriveLive t := by
  subst current
  have seeking := DriveState.awaited_eq_seekDone.mp awaits
  simp only [exec, execSeekDone] at ran
  split_ifs at ran with stale
  · rcases seeking with seeking | seeking <;> simp [seeking] at stale
  · cases ran
    exact h.resumed awaits _ rfl
  · cases ran
    exact finishSeek_live h

theorem sectorRead_live (h : DriveEvents none s) (awaits : s.drive.awaited = some .sectorRead) {g : Nat}
    (current : g = s.driveGen) (ran : exec (.sectorRead g) s = .next t) : DriveLive t := by
  subst current
  have reading := DriveState.awaited_eq_sectorRead.mp awaits
  cases pending : s.latch.pending with
  | true =>
    obtain rfl := Host.Outcome.next.inj ((sectorRead_of_pending reading pending).symm.trans ran)
    exact h.resumed awaits _ rfl
  | false =>
    have keeps : KeepsDrive s s.askSector.2 := .of_backend s.askSector_state
    rcases asked : s.askSector with ⟨_ | image, u⟩
    all_goals rw [asked] at keeps
    · obtain rfl := Host.Outcome.next.inj ((sectorRead_of_failure reading pending asked).symm.trans ran)
      exact readFail_live (keeps.events _ h)
    · obtain rfl := Host.Outcome.next.inj ((sectorRead_of_image reading pending asked).symm.trans ran)
      exact deliverSector_live (keeps.events _ h) (by rw [keeps.drive, awaits]) keeps.gen.symm image

theorem playSector_live (h : DriveEvents none s) (awaits : s.drive.awaited = some .playSector) {g : Nat}
    (current : g = s.driveGen) (ran : exec (.playSector g) s = .next t) : DriveLive t := by
  subst current
  have playing := DriveState.awaited_eq_playSector.mp awaits
  obtain rfl := Host.Outcome.next.inj ((playSector_of_playing playing).symm.trans ran)
  have keeps : KeepsDrive s s.askAudio.2 := .of_backend s.askAudio_state
  have deferred {u : State} (keeps : KeepsDrive s u) : DriveLive (u.defer .playSector s.driveGen) :=
    (keeps.events _ h).resumed (by rw [keeps.drive, awaits]) _ keeps.gen.symm
  rcases asked : s.askAudio with ⟨_ | a, v⟩
  all_goals rw [asked] at keeps
  · rw [playSectorLive_of_failure _ asked]
    split_ifs
    · exact deferred keeps
    · exact readFail_live (keeps.events _ h)
  · rcases due : autoPauseDue v with ⟨ended, u⟩
    have tracked : KeepsDrive s u := keeps.trans (.of_backend (exists_backend_of_autoPauseDue due))
    rw [playSectorLive_of_audio _ asked due]
    split_ifs
    · exact deferred tracked
    · exact playOn_live (tracked.events _ h) (by rw [tracked.drive, awaits]) tracked.gen.symm a _ _

/-- A live drive event runs in a drive that awaits it, so in none that a command has halted, and leaves the command's
part of the state alone. -/
theorem DriveSession.of_live_event {u : State} {kind : EventKind} (session : DriveSession s)
    (awaits : s.drive.awaited = some kind) (live : DriveLive t) (kept : KeepsPart State.session u t)
    (fired : u.session = s.session) : DriveSession t := by
  obtain ⟨_, halted⟩ := driveSession_iff.mp session
  have part : t.session = s.session := kept.part.trans fired
  simp only [State.session, Prod.mk.injEq] at part
  obtain ⟨phase, curOp, _⟩ := part
  refine driveSession_iff.mpr ⟨live, fun second => ?_⟩
  rw [curOp]
  exact (halted (phase.symm.trans second)).of_awaiting awaits _

theorem irqRecheck_undisturbed (s : State) (g : Nat) : NextUndisturbed s (execIrqRecheck g s) := by
  unfold execIrqRecheck
  split_ifs
  · rw [State.signal_eq]
    exact DriveUndisturbed.toNext (.same rfl rfl rfl)
  · exact (DriveUndisturbed.unchanged s).toNext

/-- A drive event of the current generation is the one the drive's state waits for, and a stale one does nothing. -/
theorem DriveSession.of_drive_event (session : DriveSession s) {e : Event} (pending : e ∈ s.queue.events)
    (drive : e.kind.isDrive = true) (ran : exec e.instr (s.firing e) = .next t)
    (stale : e.gen ≠ s.driveGen → exec e.instr (s.firing e) = .next (s.firing e))
    (live : s.drive.awaited = some e.kind → e.gen = s.driveGen → DriveEvents none (s.firing e) → DriveLive t)
    (kept : KeepsPart State.session (s.firing e) t) : DriveSession t := by
  obtain ⟨events, halted⟩ := driveSession_iff.mp session
  by_cases current : e.gen = s.driveGen
  · obtain ⟨awaits, fired⟩ := events.firing_live pending drive current
    exact session.of_live_event awaits (live awaits current fired) kept rfl
  · obtain rfl : s.firing e = t := Host.Outcome.next.inj ((stale current).symm.trans ran)
    exact driveSession_iff.mpr ⟨events.firing_foreign pending fun _ => current, halted⟩

/-- The body of an event, fired from a drive session, keeps the session. -/
theorem event_keepsDriveSession (session : DriveSession s) {e : Event} (pending : e ∈ s.queue.events)
    (ran : exec e.instr (s.firing e) = .next t) : DriveSession t := by
  have foreign (other : e.kind.isDrive = true → e.gen ≠ s.driveGen) : DriveSession (s.firing e) := by
    obtain ⟨events, halted⟩ := driveSession_iff.mp session
    exact driveSession_iff.mpr ⟨events.firing_foreign pending other, halted⟩
  obtain ⟨due, seq, kind, gen⟩ := e
  cases kind with
  | cmdExec => exact cmdExec_keepsDriveSession (foreign nofun) gen ran
  | cmdSecond => exact cmdSecond_keepsDriveSession (foreign nofun) gen ran
  | seekDone =>
    exact session.of_drive_event pending rfl ran (fun stale => if_pos (.inl stale))
      (fun awaits current fired => seekDone_live fired awaits current ran) (seekDone_keepsSession _ gen t ran)
  | sectorRead =>
    exact session.of_drive_event pending rfl ran (fun stale => if_pos (.inl stale))
      (fun awaits current fired => sectorRead_live fired awaits current ran) (sectorRead_keepsSession _ gen t ran)
  | playSector =>
    exact session.of_drive_event pending rfl ran (fun stale => if_pos (.inl stale))
      (fun awaits current fired => playSector_live fired awaits current ran) (playSector_keepsSession _ gen t ran)
  | irqRecheck => exact (foreign nofun).kept (irqRecheck_undisturbed _ gen t ran)

end DriveEventBodies

/-! ### The port operations -/

section Ports

open DriveUndisturbed

variable (s : State)

theorem ackIrq_undisturbed : DriveUndisturbed s s.ackIrq := by
  rw [State.ackIrq_eq]
  split_ifs
  · refine startCommand ?_ _ _
    exact .same rfl
  · exact ⟨.same rfl, nofun⟩
  · exact same rfl rfl rfl

theorem issueCommand_undisturbed (op : Byte) : DriveUndisturbed s (issueCommand op s) := by
  rw [issueCommand_eq]
  split_ifs
  · refine startCommand ?_ _ _
    exact .same rfl
  · exact same rfl rfl rfl
  · exact same rfl rfl rfl

theorem p2r_undisturbed : NextUndisturbed s (execP2r s) := by
  unfold execP2r
  split_ifs <;> exact toNext (same rfl rfl rfl)

theorem p3r_undisturbed : NextUndisturbed s (execP3r s) := by
  have acknowledged : DriveUndisturbed s (if s.latch.pending then s.ackIrq else s) := by
    split_ifs
    · exact ackIrq_undisturbed s
    · exact .unchanged s
  exact toNext (acknowledged.trans (same rfl rfl rfl))

/-- No port operation touches the drive session or enters a second phase. -/
theorem access_undisturbed (port : Nat) (write : Option Byte) (mode : Bool) :
    NextUndisturbed s (exec (accessInstr port write mode) s) := by
  match port, write, mode with
  | 0, none, _ => exact toNext (same rfl rfl rfl)
  | 0, some _, _ => exact toNext (same rfl rfl rfl)
  | 1, none, _ => exact toNext (same rfl rfl rfl)
  | 1, some op, false => exact toNext (issueCommand_undisturbed s op)
  | 1, some _, true => exact toNext (same rfl rfl rfl)
  | 2, none, _ => exact p2r_undisturbed s
  | 2, some _, false => exact toNext (.unchanged s)
  | 2, some _, true => exact toNext (same rfl rfl rfl)
  | _ + 3, none, _ => exact p3r_undisturbed s
  | _ + 3, some _, false => exact toNext (same rfl rfl rfl)
  | _ + 3, some _, true => exact toNext (same rfl rfl rfl)

end Ports

/-! ### The step -/

/-- Settles O56: a fired event is live or foreign to the drive session, no port operation disturbs the drive, and power-on
starts a new session without events. -/
theorem stepKeepsDriveSession : Obligations.StepKeepsDriveSession := by
  intro s t session h
  have quiet : DriveSession s.quiet := session.kept (.same rfl rfl rfl)
  rcases step_next_cases s t h with ⟨_, rfl⟩ | ⟨hd, rest, _, _, fired | ⟨_, ticked | poweredOn | accessed⟩⟩
  · exact quiet
  · obtain ⟨e, due, ran⟩ := fired
    exact event_keepsDriveSession quiet (EventQueue.nextDue_some due).1 ran
  · obtain ⟨c, _, rfl⟩ := ticked
    exact quiet.kept (.same rfl rfl rfl)
  · obtain ⟨c, _, rfl⟩ := poweredOn
    exact .powerOn _ _ _ _
  · obtain ⟨c, a, _, _, _, _, ran⟩ := accessed
    have taken : DriveSession (s.quiet.taking c rest) := quiet.kept (.same rfl rfl rfl)
    exact taken.kept (access_undisturbed _ _ _ _ t ran)

end Sys2Proof.Machine
end

section
/-! SUPPORT and the settlement of O48: what the queries of `TrackOf` answer, one after another (44_sector_pipeline.md
R269, 20_memory.md R70), and the two that follow for the end of a track (R267). -/

namespace Sys2Proof.Machine

theorem Backend.tracks_ordered {b : Backend} {first last : Nat} (tracks : b.tracks = (first, last)) : first ≤ last := by
  have range (x y : Fin 99) : (trackRange x y).1 ≤ (trackRange x y).2 := by
    simp only [trackRange]
    omega
  have ordered : b.tracks.1 ≤ b.tracks.2 := by
    unfold Backend.tracks
    split <;> exact range _ _
  rwa [tracks] at ordered

/-- What a scan of the tracks `t .. t + n - 1` keeps: the track it brought along, when each of them starts after the
position, or else the last of them that does not. -/
inductive LastStarted (start : Nat → Nat) (p : Msf) (t n best : Nat) : Nat → Prop
  | brought (later : ∀ k, t ≤ k → k < t + n → absf p < start k) : LastStarted start p t n best best
  | started {r : Nat} (low : t ≤ r) (high : r < t + n) (reached : start r ≤ absf p)
      (later : ∀ k, r < k → k < t + n → absf p < start k) : LastStarted start p t n best r

/-- One more track in front of the scan. -/
theorem LastStarted.cons {start : Nat → Nat} {p : Msf} {t n best r : Nat}
    (h : LastStarted start p (t + 1) n (if start t ≤ absf p then t else best) r) :
    LastStarted start p t (n + 1) best r := by
  cases h with
  | brought later =>
    split_ifs with reached
    · exact .started le_rfl (by omega) reached fun k above below => later k above (by omega)
    · refine .brought fun k low below => ?_
      rcases low.eq_or_lt with rfl | above
      · omega
      · exact later k above (by omega)
  | started low high reached later =>
    exact .started (by omega) (by omega) reached fun k above below => later k above (by omega)

/-- The scan asks `n` times, and the answer for a track is that of its own query. -/
theorem trackScan_lastStarted (p : Msf) (start : Nat → Nat) (n : Nat) : ∀ (t best : Nat) (s : State),
    (∀ i < n, start (t + i) = absf ((s.backend.after i).start (t + i))) →
    ∃ r, trackScan p t n best s = (r, { s with backend := s.backend.after n }) ∧ LastStarted start p t n best r := by
  induction n with
  | zero => exact fun t best s _ => ⟨best, rfl, .brought (by omega)⟩
  | succ n ih =>
    intro t best s starts
    have here : absf (s.backend.start t) = start t := (starts 0 n.succ_pos).symm
    obtain ⟨r, scanned, last⟩ := ih (t + 1) (if start t ≤ absf p then t else best) s.queried fun i lt => by
      rw [Nat.add_assoc, Nat.add_comm 1 i]
      exact starts (i + 1) (Nat.succ_lt_succ lt)
    refine ⟨r, ?_, last.cons⟩
    rw [trackScan, here]
    exact scanned

/-- `TrackOf` asks for the range, then for each track of it, the first brought along. -/
theorem trackOf_lastStarted {s : State} {first last : Nat} (tracks : s.backend.tracks = (first, last)) (p : Msf)
    {start : Nat → Nat} (starts : ∀ t, start t = absf ((s.backend.after (t - first + 1)).start t)) :
    ∃ t, trackOf p s = (t, { s with backend := s.backend.after (last + 2 - first) }) ∧
      LastStarted start p first (last + 1 - first) first t := by
  have ordered := Backend.tracks_ordered tracks
  obtain ⟨t, scanned, kept⟩ := trackScan_lastStarted p start (last + 1 - first) first first s.queried fun i _ => by
    have answer := starts (first + i)
    rwa [Nat.add_sub_cancel_left] at answer
  refine ⟨t, ?_, kept⟩
  rw [trackOf, State.askTracks, tracks, show last + 2 - first = last + 1 - first + 1 by omega]
  exact scanned

/-- `EndOfTrack` asks for the range again and then for the one start. -/
theorem endOfTrack_eq {s w : State} {p : Msf} {t first last : Nat} (tracked : trackOf p s = (t, w))
    (tracks : w.backend.tracks = (first, last)) : endOfTrack p s =
      (absf (advance p) == absf (w.queried.backend.start (if t < last then t + 1 else 0)), w.queried.queried) := by
  simp [endOfTrack, tracked, State.askTracks, State.askStart, tracks]

/-- Settles O48: the scan over the range of tracks, and the start that follows the track it finds. -/
theorem trackOfIsLastStarted : Obligations.TrackOfIsLastStarted := by
  refine ⟨fun s p first last tracks start starts => ?trackOf, fun s w p t first last tracked tracks => ?endOfTrack⟩
  case trackOf =>
    have ordered := Backend.tracks_ordered tracks
    have range : first + (last + 1 - first) = last + 1 := by omega
    obtain ⟨t, asked, kept⟩ := trackOf_lastStarted tracks p starts
    refine ⟨t, asked, ?_⟩
    cases kept with
    | brought later =>
      rw [range] at later
      exact ⟨le_rfl, ordered, fun k above high => later k above.le (Nat.lt_succ_of_le high),
        .inr ⟨rfl, fun k low high => later k low (Nat.lt_succ_of_le high)⟩⟩
    | started low high reached later =>
      rw [range] at high later
      exact ⟨low, Nat.le_of_lt_succ high, fun k above high => later k above (Nat.lt_succ_of_le high), .inl reached⟩
  case endOfTrack =>
    obtain ⟨b, state⟩ := trackOf_state p s
    obtain rfl : w = { s with backend := b } := by rwa [tracked] at state
    rw [endOfTrack_eq tracked tracks]
    refine ⟨fun inside => ?_, fun last => ?_, rfl⟩
    · rw [if_pos inside, beq_iff_eq]
    · rw [if_neg (by omega), beq_iff_eq]

end Sys2Proof.Machine
end

section
/-! SUPPORT and the settlement of O8: the event that fires next (45_irq_scheduler.md R283). -/

namespace Sys2Proof.Machine

/-- The firing order compares `(due, seq)`, so an event that is not before another has the same or a later pair. -/
theorem Event.not_before_iff {a b : Event} :
    ¬ b.before a = true ↔ a.due < b.due ∨ (a.due = b.due ∧ a.seq ≤ b.seq) := by
  simp only [Event.before, Bool.or_eq_true, Bool.and_eq_true, decide_eq_true_eq, beq_iff_eq]
  omega

theorem Event.not_before_trans {a b c : Event} (first : ¬ b.before a = true) (second : ¬ c.before b = true) :
    ¬ c.before a = true := by
  rw [Event.not_before_iff] at *
  omega

theorem Event.before_asymm {a b : Event} (before : a.before b = true) : ¬ b.before a = true := by
  rw [Event.not_before_iff]
  simp only [Event.before, Bool.or_eq_true, Bool.and_eq_true, decide_eq_true_eq, beq_iff_eq] at before
  omega

theorem leastEvent_cons_of_some {a b : Event} {es : List Event} (least : leastEvent es = some b) :
    leastEvent (a :: es) = some (if b.before a then b else a) := by
  simp only [leastEvent, least]
  split_ifs <;> rfl

/-- No event of the list is before the least one. -/
theorem not_before_leastEvent (es : List Event) :
    ∀ m, leastEvent es = some m → ∀ e ∈ es, ¬ e.before m = true := by
  have irrefl (e : Event) : ¬ e.before e = true := fun before => Event.before_asymm before before
  induction es with
  | nil => simp
  | cons a es ih =>
    intro m h
    cases least : leastEvent es with
    | none =>
      obtain rfl : es = [] := (leastEvent_eq_none es).mp least
      obtain rfl : a = m := Option.some.inj h
      simpa using irrefl a
    | some b =>
      obtain rfl := Option.some.inj ((leastEvent_cons_of_some least).symm.trans h)
      split_ifs with before
      · exact List.forall_mem_cons.mpr ⟨Event.before_asymm before, ih b least⟩
      · exact List.forall_mem_cons.mpr ⟨irrefl a, fun e mem => Event.not_before_trans before (ih b least e mem)⟩

/-- Settles O8: the event fired next is the least of the due ones, which no due event is before; there is a least one
unless the list of due events is empty. -/
theorem nextDueIsLeast : Obligations.NextDueIsLeast := by
  intro q t
  refine ⟨fun e fires => ?least, EventQueue.nextDue_none, fun later => ?none⟩
  case least =>
    obtain ⟨mem, due, _⟩ := EventQueue.nextDue_some fires
    refine ⟨mem, due, fun x pending xdue => Event.not_before_iff.mp ?_⟩
    exact not_before_leastEvent _ e fires x (List.mem_filter.mpr ⟨pending, decide_eq_true xdue⟩)
  case none =>
    rw [EventQueue.nextDue, leastEvent_eq_none]
    simpa using later

end Sys2Proof.Machine
end

section
/-! SUPPORT and the settlements of O49 and O51: raising an interrupt and signalling it again (45_irq_scheduler.md R288 to
R290). -/

namespace Sys2Proof.Machine

variable {s : State}

/-- `GenerateIRQ`: the latch, the line, one re-check event, and nothing else. -/
theorem State.generateIrq_eq (s : State) (type : IrqType) : s.generateIrq type = { s with
    latch := { pending := true, kind := type.code }
    out := { s.out with line := s.out.line || s.irqEnabled type.code }
    queue := { events := s.queue.events ++ [recheckEvent s type], nextSeq := s.queue.nextSeq + 1 } } := by
  rw [State.generateIrq, State.signal_eq]
  rfl

/-- Settles O49: each row of the table is the equation of `GenerateIRQ` for its type. -/
theorem generateIrqEffect : Obligations.GenerateIrqEffect := by
  intro s
  simp only [List.forall_mem_cons]
  exact ⟨s.generateIrq_eq .dataReady, s.generateIrq_eq .complete, s.generateIrq_eq .ack, s.generateIrq_eq .diskError,
    fun _ mem => nomatch mem⟩

theorem irqRecheck_of_pending (pending : s.latch.pending = true) (g : Nat) :
    exec (.irqRecheck g) s = .next (s.signal s.latch.kind) :=
  congrArg Host.Outcome.next (if_pos pending)

theorem irqRecheck_of_clear (clear : s.latch.pending = false) (g : Nat) : exec (.irqRecheck g) s = .next s :=
  congrArg Host.Outcome.next (if_neg (ne_true_of_eq_false clear))

/-- Settles O51: a pending latch is signalled, and with none pending the line keeps its value. -/
theorem recheckOnlySignals : Obligations.RecheckOnlySignals := by
  intro s g
  cases pending : s.latch.pending with
  | true => rw [irqRecheck_of_pending pending, State.signal_eq, Bool.true_and, State.irqEnabled]
  | false => rw [irqRecheck_of_clear pending, Bool.false_and, Bool.or_false]

end Sys2Proof.Machine
end

section
/-! SUPPORT and the settlements of O21 and O22: the guard and the deferral of each event (45_irq_scheduler.md R285,
R287), one equation per kind. Those of CMD_SECOND and SECTOR_READ that defer stand with their bodies above. -/

namespace Sys2Proof.Machine

variable {s : State} {g : Nat}

theorem cmdExec_of_not_live (stale : g ≠ s.cmdGen ∨ s.phase ≠ .executing) : exec (.cmdExec g) s = .next s :=
  if_pos stale

theorem cmdSecond_of_not_live (stale : g ≠ s.cmdGen ∨ s.phase ≠ .secondResponse) : exec (.cmdSecond g) s = .next s :=
  if_pos stale

theorem seekDone_of_not_live (stale : g ≠ s.driveGen ∨ ¬ (s.drive = .seekingLogical ∨ s.drive = .seekingPhysical)) :
    exec (.seekDone g) s = .next s :=
  if_pos (stale.imp_right not_or.mp)

theorem sectorRead_of_not_live (stale : g ≠ s.driveGen ∨ s.drive ≠ .reading) : exec (.sectorRead g) s = .next s :=
  if_pos stale

theorem playSector_of_not_live (stale : g ≠ s.driveGen ∨ s.drive ≠ .playing) : exec (.playSector g) s = .next s :=
  if_pos stale

/-- Settles O21: the guard of each event comes before its body. -/
theorem staleEventsDoNothing : Obligations.StaleEventsDoNothing := fun _ _ =>
  ⟨cmdExec_of_not_live, cmdSecond_of_not_live, seekDone_of_not_live, sectorRead_of_not_live, playSector_of_not_live⟩

theorem cmdExec_of_pending (executing : s.phase = .executing) (pending : s.latch.pending = true) :
    exec (.cmdExec s.cmdGen) s = .next (s.defer .cmdExec s.cmdGen) := by
  simp [exec, execCmdExec, executing, pending]

/-- SEEK_DONE defers only where it has to answer. -/
theorem seekDone_of_pending (seeking : s.drive = .seekingLogical ∨ s.drive = .seekingPhysical)
    (answers : s.cfg.seekCompleteIrq = true) (pending : s.latch.pending = true) :
    exec (.seekDone s.driveGen) s = .next (s.defer .seekDone s.driveGen) := by
  have live : ¬ (s.driveGen ≠ s.driveGen ∨ s.drive ≠ .seekingLogical ∧ s.drive ≠ .seekingPhysical) := by tauto
  exact (if_neg live).trans (if_pos ⟨answers, pending⟩)

/-- Settles O22: the deferral is the schedule after `T_DEFER`, and each of the four events defers. -/
theorem liveEventsDefer : Obligations.LiveEventsDefer := fun _ pending =>
  ⟨fun executing => cmdExec_of_pending executing pending,
    fun second => cmdSecond_of_pending second pending,
    fun reading => sectorRead_of_pending reading pending,
    fun seeking answers => seekDone_of_pending seeking answers pending⟩

end Sys2Proof.Machine
end

section
/-! SUPPORT and the settlement of O52 (45_irq_scheduler.md R292, 60_exceptions.md R303). While an interrupt is pending
every event body is stale, deferred, or one that raises no interrupt, and no port operation but the Port3 read writes the
latch. -/

namespace Sys2Proof.Machine

/-- If an outcome has a next state, the interrupt latch is there as it was. -/
def NextKeepsLatch (s : State) (r : StepResult) : Prop := ∀ t, r = .next t → t.latch = s.latch

namespace NextKeepsLatch

variable {s t : State} {r : StepResult}

theorem of_next (ran : r = .next t) (kept : t.latch = s.latch) : NextKeepsLatch s r := by
  intro _ ran'
  obtain rfl := Host.Outcome.next.inj (ran.symm.trans ran')
  exact kept

/-- An event that is not live does nothing, so only the live one is to be looked at (R285). -/
theorem of_live {g current : Nat} {ready : Prop} (stale : g ≠ current ∨ ¬ ready → r = .next s)
    (live : g = current → ready → NextKeepsLatch s r) : NextKeepsLatch s r := by
  by_cases isLive : g = current ∧ ready
  · exact live isLive.1 isLive.2
  · exact of_next (stale (not_and_or.mp isLive)) rfl

end NextKeepsLatch

open NextKeepsLatch

section Events

variable {s : State}

/-- A live SEEK_DONE that does not defer has no answer to give, so it leaves a pending latch alone. -/
theorem seekDone_keepsLatch (pending : s.latch.pending = true)
    (seeking : s.drive = .seekingLogical ∨ s.drive = .seekingPhysical) :
    NextKeepsLatch s (exec (.seekDone s.driveGen) s) := by
  cases answers : s.cfg.seekCompleteIrq with
  | true => exact of_next (seekDone_of_pending seeking answers pending) rfl
  | false =>
    have completed := seekDone_of_live seeking (by simp [answers])
    rw [finishSeek_silent answers] at completed
    exact of_next completed rfl

/-- A live PLAY_SECTOR that does not defer has neither an auto-pause nor a report due, so it leaves a pending latch
alone. -/
theorem playSectorLive_latch (pending : s.latch.pending = true) (g : Nat) : (playSectorLive g s).latch = s.latch := by
  obtain ⟨b, state⟩ := s.askAudio_state
  rcases asked : s.askAudio with ⟨_ | a, v⟩
  all_goals
    rw [asked] at state
    subst state
  · rw [playSectorLive_of_failure g asked, if_pos pending]
    rfl
  · rcases due : autoPauseDue { s with backend := b } with ⟨ended, u⟩
    obtain ⟨c, rfl⟩ := exists_backend_of_autoPauseDue due
    rw [playSectorLive_of_audio g asked due]
    split_ifs with deferred
    · rfl
    · obtain ⟨going, unreported⟩ := not_or.mp fun raises => deferred ⟨raises, pending⟩
      rw [eq_false_of_ne_true going, eq_false_of_ne_true unreported]
      simp [playOn_silent, playedSector_eq]

/-- No event's body writes a pending latch (R287, R292). -/
theorem event_keepsLatch (pending : s.latch.pending = true) (e : Event) : NextKeepsLatch s (exec e.instr s) := by
  obtain ⟨due, seq, kind, gen⟩ := e
  cases kind with
  | cmdExec =>
    refine of_live cmdExec_of_not_live ?_
    rintro rfl executing
    exact of_next (cmdExec_of_pending executing pending) rfl
  | cmdSecond =>
    refine of_live cmdSecond_of_not_live ?_
    rintro rfl second
    exact of_next (cmdSecond_of_pending second pending) rfl
  | seekDone =>
    refine of_live seekDone_of_not_live ?_
    rintro rfl seeking
    exact seekDone_keepsLatch pending seeking
  | sectorRead =>
    refine of_live sectorRead_of_not_live ?_
    rintro rfl reading
    exact of_next (sectorRead_of_pending reading pending) rfl
  | playSector =>
    refine of_live playSector_of_not_live ?_
    rintro rfl playing
    exact of_next (playSector_of_playing playing) (playSectorLive_latch pending _)
  | irqRecheck => exact of_next (irqRecheck_of_pending pending gen) (s.signal_latch _)

end Events

section Ports

variable (s : State)

theorem issueCommand_latch (op : Byte) : (issueCommand op s).latch = s.latch := by
  rw [issueCommand_eq]
  split_ifs <;> rfl

theorem p2r_keepsLatch : NextKeepsLatch s (exec .p2r s) := by
  cases ready : s.xfer.ready with
  | true => exact of_next (p2r_of_ready ready) rfl
  | false => exact of_next (p2r_of_not_ready ready) rfl

/-- No port operation but the Port3 read writes the latch. -/
theorem access_keepsLatch {port : Nat} {write : Option Byte} (other : write = none → port < 3) (mode : Bool) :
    NextKeepsLatch s (exec (accessInstr port write mode) s) := by
  match port, write, mode with
  | 0, none, _ => exact of_next rfl rfl
  | 0, some _, _ => exact of_next rfl rfl
  | 1, none, _ => exact of_next (p1r_eq s) rfl
  | 1, some op, false => exact of_next rfl (issueCommand_latch s op)
  | 1, some _, true => exact of_next rfl rfl
  | 2, none, _ => exact p2r_keepsLatch s
  | 2, some _, false => exact of_next rfl rfl
  | 2, some _, true => exact of_next rfl rfl
  | n + 3, none, _ => exact absurd (other rfl) (by omega)
  | _ + 3, some _, false => exact of_next rfl rfl
  | _ + 3, some _, true => exact of_next rfl rfl

@[simp] theorem State.ackIrq_latch : s.ackIrq.latch = { pending := false, kind := 0 } := by
  rw [State.ackIrq_eq]
  split_ifs <;> rfl

@[simp] theorem State.ackIrq_inputs : s.ackIrq.inputs = s.inputs := by
  rw [State.ackIrq_eq]
  split_ifs <;> rfl

variable {s}

theorem p3r_of_pending (pending : s.latch.pending = true) :
    exec .p3r s = .next (s.ackIrq.returning (s.latch.kind.setWidth 8)) := by
  rw [p3r_eq, if_pos pending]

end Ports

/-- The access of the host that acknowledges: a byte read at the address of Port3. -/
theorem access_eq_readPort {c : Config} {a : BusAccess} {port : Nat} (addr : a.addr = c.cdBase + port) (byte : a.bits = 8)
    (read : a.write = none) (t : Nat) : HostStep.access t a = readPort c t port := by
  obtain ⟨_, _, _⟩ := a
  subst addr byte read
  rfl

/-- Settles O52: no event body writes a pending latch, and of the host's steps only power-on and the Port3 read do, which
clear it. -/
theorem latchHeldUntilAcknowledged : Obligations.LatchHeldUntilAcknowledged := by
  intro s t h pending
  rcases step_next_cases s t h with ⟨_, rfl⟩ | ⟨hd, rest, offered, _, fired | ⟨_, ticked | poweredOn | accessed⟩⟩
  · exact .inl rfl
  · obtain ⟨e, _, ran⟩ := fired
    exact .inl (event_keepsLatch (s := s.quiet.firing e) pending e t ran)
  · obtain ⟨c, _, rfl⟩ := ticked
    exact .inl rfl
  · obtain ⟨c, rfl, rfl⟩ := poweredOn
    exact .inr ⟨rfl, _, rest, offered, rfl, .inl ⟨c, rfl⟩⟩
  · obtain ⟨c, a, rfl, low, high, byte, ran⟩ := accessed
    by_cases acknowledges : a.write = none ∧ a.addr = s.cfg.cdBase + 3
    · obtain ⟨read, addr⟩ := acknowledges
      have instr : accessInstr (a.addr - s.cfg.cdBase) a.write s.paramMode = .p3r := by
        rw [read, addr, Nat.add_sub_cancel_left]
        rfl
      rw [instr, p3r_of_pending (s := s.quiet.taking c rest) pending] at ran
      obtain rfl := Host.Outcome.next.inj ran
      exact .inr ⟨by simp, _, rest, offered, by simp, .inr ⟨c, access_eq_readPort addr byte read c⟩⟩
    · have other : a.write = none → a.addr - s.cfg.cdBase < 3 := fun read => by
        have elsewhere : a.addr ≠ s.cfg.cdBase + 3 := fun addr => acknowledges ⟨read, addr⟩
        omega
      exact .inl (access_keepsLatch (s.quiet.taking c rest) other s.paramMode t ran)

end Sys2Proof.Machine
end

section
/-! SUPPORT and the settlements of O9 and O57: the registers after power-on and the machine right after reset
(70_reset_and_hazards.md R330). -/

namespace Sys2Proof.Machine

variable {s : State}

/-- The step that takes the host's power-on, once every event due before it has fired. -/
theorem step_of_powerOn {t : Nat} {rest : List HostStep} (offered : s.inputs = .powerOn t :: rest) (ahead : s.now ≤ t)
    (none_due : s.queue.nextDue t = none) : step s = .next (State.powerOn s.cfg t rest s.backend) :=
  step_of_none_due offered ahead none_due

/-- After power-on the one flag of `STAT` that is up is the room in the parameter FIFO, as no parameter is in it
(40_fifo_and_registers.md R118). -/
theorem State.powerOn_statByte {cfg : Config} (room : 1 ≤ cfg.paramCap) (now : Nat) (inputs : List HostStep)
    (backend : Backend) : (State.powerOn cfg now inputs backend).statByte = 0x10 := by
  have down (mask : Byte) : hasBit (State.powerOn cfg now inputs backend).statP mask = false := by
    simp [hasBit, State.powerOn]
  have paramRoom : (State.powerOn cfg now inputs backend).pfifo.size < cfg.paramCap := room
  have noResponse : ¬ 0 < (State.powerOn cfg now inputs backend).rfifo.size := lt_irrefl 0
  have notReady : (State.powerOn cfg now inputs backend).xfer.ready = false := rfl
  have sameConfig : (State.powerOn cfg now inputs backend).cfg = cfg := rfl
  simp [State.statByte, down, sameConfig, paramRoom, noResponse, notReady, flagBit]

/-- Settles O9: the step is power-on's, which writes each register's reset value; only the transfer buffer, read at
every index, and the derived `STAT` are more than the value written. -/
theorem powerOnValues : Obligations.PowerOnValues := by
  intro s t rest offered ahead none_due
  have buffer : ∀ a, (State.powerOn s.cfg t rest s.backend).xfer.buf.read a = 0x00 := fun _ => rfl
  have status : 1 ≤ s.cfg.paramCap → (State.powerOn s.cfg t rest s.backend).statByte = 0x10 :=
    fun room => State.powerOn_statByte room t rest s.backend
  exact ⟨_, step_of_powerOn offered ahead none_due,
    rfl, rfl, rfl, rfl, rfl, rfl, rfl, rfl, rfl, rfl, rfl, rfl, rfl, rfl, rfl, rfl,
    buffer, rfl, rfl, rfl, rfl, rfl, rfl, rfl, rfl, rfl, rfl, rfl, rfl, rfl, rfl, rfl, rfl, status⟩

/-- The spec's default parameters are a configuration it allows (00_scope.md R7, 45_irq_scheduler.md R282). -/
theorem Config.standard_valid : Config.standard.valid = true := by decide

/-- Settles O57: reset is a power-on with the default parameters, and every power-on meets the four invariants. -/
theorem resetMeetsInvariants : Obligations.ResetMeetsInvariants :=
  ⟨.powerOn Config.standard_valid _ _ _, .powerOn _ _ _ _, .powerOn _ _ _ _, .powerOn _ _ _ _⟩

end Sys2Proof.Machine
end
